-- ==== Sys2Proof/Word.lean ====
section
/-! DEFINITION. The word types of the three links and the fixed collection of four that channels, axes and
servo-frame slots come in. Nothing here depends on a rule of the manual. -/

namespace Sys2Proof

/-- One byte of a link. -/
abbrev Byte := BitVec 8

/-- A sequence number, gate number or break number: 32 bits, wrapping. -/
abbrev Word32 := BitVec 32

/-- Four like things, numbered 0..3: channels, axes, datum slots, servo-frame slots. -/
structure Four (α : Type) where
  a0 : α
  a1 : α
  a2 : α
  a3 : α
  deriving DecidableEq, Repr

namespace Four

variable {α β : Type}

/-- The thing numbered `i`. -/
def get (f : Four α) (i : Fin 4) : α :=
  match i with
  | 0 => f.a0
  | 1 => f.a1
  | 2 => f.a2
  | 3 => f.a3

/-- The four with number `i` replaced. -/
def set (f : Four α) (i : Fin 4) (x : α) : Four α :=
  match i with
  | 0 => { f with a0 := x }
  | 1 => { f with a1 := x }
  | 2 => { f with a2 := x }
  | 3 => { f with a3 := x }

/-- The four things `f 0`, `f 1`, `f 2`, `f 3`. -/
def ofFn (f : Fin 4 → α) : Four α := ⟨f 0, f 1, f 2, f 3⟩

/-- Four times the same thing. -/
def fill (x : α) : Four α := ⟨x, x, x, x⟩

/-- Each of the four changed by `f`, which also sees its number. -/
def mapIdx (f : Four α) (g : Fin 4 → α → β) : Four β := ofFn fun i => g i (f.get i)

end Four

/-- The four numbers 0..3 in ascending order. -/
def indices : List (Fin 4) := [0, 1, 2, 3]

/-- The number that a two-bit field names. -/
def indexOf (b : BitVec 2) : Fin 4 := ⟨b.toNat, b.isLt⟩

end Sys2Proof
end

