-- ==== Sys2Proof/Syntax.lean ====
section
/-! DEFINITION. The commands and events that reach the part, one constructor per row of spec/opcode_table.json, and
the names their operands take. A command carries its argument fields as they stand on its link; what an argument
means, and whether it is refused, is decided by the machine. -/

namespace Sys2Proof

/-- A line-detector input (R103). -/
inductive LineInput where
  | line0
  | line1
  deriving DecidableEq, Repr

/-- A reference-mark input (R81). -/
inductive RefInput where
  | ref0
  | ref1
  deriving DecidableEq, Repr

/-- An edge of an input. -/
inductive Edge where
  | rising
  | falling
  deriving DecidableEq, Repr

/-- The rows of the opcode table.

The first eight rows of the sample path (SAMPLE_SET_ARRIVAL to GATE_LENGTH_ADOPTED below) are the strobe of one value
on the sample-set port, with the level of LASER_LOCK at that instant; each is named after something that the arrival
may bring about. The rows CONFIGURATION_ADOPTED to TEST_ADVANCED are a block's taking of the last gate end or gate
report. -/
inductive Instr where
  -- the sample-set port (R1, R2) and what an arrival brings about
  | sampleSetArrival (value : BitVec 16) (laserLock : Bool)
  | testPeriodEnd (value : BitVec 16) (laserLock : Bool)
  | lossPersistReached (value : BitVec 16) (laserLock : Bool)
  | settleComplete (value : BitVec 16) (laserLock : Bool)
  | lockSettleComplete (value : BitVec 16) (laserLock : Bool)
  | envStale (value : BitVec 16) (laserLock : Bool)
  | gateEnd (value : BitVec 16) (laserLock : Bool)
  | gateLengthAdopted (value : BitVec 16) (laserLock : Bool)
  -- what the blocks do with a gate end and its report
  | configurationAdopted
  | heldUpdatePromoted
  | envUpdateApplied
  | captureFinalization
  | scanActive
  | stopReached
  | immediateDatum
  | datumTimeout
  | holdUnseen
  | testAdvanced
  -- hardware inputs
  | lineEvent (input : LineInput) (edge : Edge)
  | referenceMarkEvent (input : RefInput) (edge : Edge)
  -- the servo link
  | syncArrival
  | servoFrameCompletion (request : Byte)
  | servoRequestNone
  | servoDatumArm
  | servoDatumCancel
  | servoCapture
  -- the measurement link: framing
  | transactionBegin
  | transactionEnd (clocked : Nat)
  -- the measurement link: commands
  | identify
  | readStatus
  | readEvents
  | setEventMask (mask : BitVec 16)
  | setParam (number : BitVec 16) (value : BitVec 32)
  | setParamWeight (axis channel : BitVec 2) (value : BitVec 32)
  | setParamLambda (value : BitVec 32)
  | setParamPathK (channel : BitVec 2) (value : BitVec 32)
  | setParamDeadPath (channel : BitVec 2) (value : BitVec 32)
  | setParamTrackerCh (value : BitVec 32)
  | setParamLockOverride (value : BitVec 32)
  | setParamAmpMin (channel : BitVec 2) (value : BitVec 32)
  | setParamAmpMax (channel : BitVec 2) (value : BitVec 32)
  | setParamHighWater (value : BitVec 32)
  | setParamLowWater (value : BitVec 32)
  | setParamServoPresetH (axis : BitVec 2) (value : BitVec 32)
  | setParamServoPresetL (axis : BitVec 2) (value : BitVec 32)
  | getParam (number : BitVec 16)
  | channelEnable (channel : Byte)
  | channelDisable (channel : Byte)
  | channelRestart (channel : Byte)
  | testStart (channels : Byte)
  | testStop
  | datumArm (axis source edge : Byte) (preset : BitVec 64) (timeout : BitVec 16)
  | datumCancel (axis : Byte)
  | readAxis (axis : Byte)
  | captureNow
  | tableInsert (index : BitVec 16) (nominal : BitVec 64) (halfWindow : BitVec 32) (retained : Byte)
  | tableDelete (index : BitVec 16) (force : Byte)
  | tableFlush (option : Byte)
  | tableRead (mode : Byte) (key : BitVec 16)
  | scanOpen (id axis line direction : Byte) (start stop : BitVec 64)
  | scanClose
  | scanClear
  | readRecord
  | readException
  | unknownCommand (code : Byte)
  | restart
  -- resets
  | deviceReset (held : Bool)
  -- the environment link
  | envUpdate
  | malformedUpdate
  | pointerSet
  | statusBlockRead (address : BitVec 7) (addrPin : Bool)
  -- the values of a set before its last, and the beginning of an environment write
  | sampleValueDelivered (value : BitVec 16) (laserLock : Bool)
  | envWriteBegin (address : BitVec 7) (addrPin : Bool) (bytes : List Byte)
  deriving DecidableEq, Repr

/-- The numbered parameters of R181, the per-channel, per-axis, per-line and per-slot ones with their number. -/
inductive Param where
  | offsetS (c : Fin 4)
  | offsetC (c : Fin 4)
  | gainC (c : Fin 4)
  | skew (c : Fin 4)
  | ampMin (c : Fin 4)
  | ampMax (c : Fin 4)
  | pathK (c : Fin 4)
  | deadPath (c : Fin 4)
  | settleSel
  | lossPersist
  | stepLimit
  | lockSettle
  | lockOverride
  | nDefault
  | trackerCh
  | trackerLen
  | envStepMax
  | envStaleLimit
  | vacuum
  | lambda
  | servoUnit
  | weight (axis channel : Fin 4)
  | servoPresetH (axis : Fin 4)
  | servoPresetL (axis : Fin 4)
  | gateSel
  | tNs
  | hyst
  | stableGates
  | vMax
  | lineEdge (input : LineInput)
  | lineLatency (input : LineInput)
  | lineOutside
  | captureAxes
  | highWater
  | lowWater
  | holdTimeout
  | servoMap (slot : Fin 4)
  | testAmp
  | testRate
  | testPeriod
  | testDrop
  | testPatterns
  | testAdvance
  deriving DecidableEq, Repr

end Sys2Proof
end

