-- ==== Sys2Proof/Decode.lean ====
section
/-! DEFINITION. Commands as words. The part's commands are events and transactions of its links; no row of
spec/opcode_table.json gives a word of bits, so no word spells a command. -/

namespace Sys2Proof

/-- The command that a word spells by the bits of the opcode table: none, since no row gives bits. -/
def decodeTableWord (_nbits _w : Nat) : Option Instr := none

end Sys2Proof
end

