-- ==== Sys2Proof/Machine/Arith.lean ====
section
/-! DEFINITION. The exact integer arithmetic of the manual's conventions: rounding, clamping, the integer square root,
saturating counters and the byte order of the links. -/

namespace Sys2Proof.Machine

/-- `n / d` rounded to nearest, ties away from zero, for a positive `d` ("Rounded", R49). -/
def roundDiv (n d : Int) : Int :=
  if 0 ≤ n then (2 * n + d) / (2 * d) else -((2 * -n + d) / (2 * d))

/-- `v` clamped to `lo..hi`. -/
def clampTo (lo hi v : Int) : Int :=
  if v < lo then lo else if hi < v then hi else v

/-- `n + 1`, saturating at `top`. -/
def satSucc (top n : Nat) : Nat := if n < top then n + 1 else top

/-- The bits of the integer square root of `n` below bit `k`, added to the root `r` found so far. -/
def isqrtBits (n : Nat) : Nat → Nat → Nat
  | 0, r => r
  | k + 1, r => isqrtBits n k (if (r + 2 ^ k) * (r + 2 ^ k) ≤ n then r + 2 ^ k else r)

/-- The largest integer whose square does not exceed `n` (R8). -/
def isqrt (n : Nat) : Nat := isqrtBits n (n.log2 / 2 + 1) 0

/-- `v` in `n` bytes, most significant byte first, two's complement (chapter 10). -/
def be : Nat → Int → List Byte
  | 0, _ => []
  | n + 1, v => be n (v / 256) ++ [BitVec.ofInt 8 v]

/-- A natural number in `n` bytes, most significant byte first. -/
def beNat (n v : Nat) : List Byte := be n v

/-- A set or clear indication in one byte. -/
def beBool (b : Bool) : List Byte := if b then [1] else [0]

/-- An item that may be absent: a presence byte, then its field of `n` bytes, 0 when absent (R183). -/
def beOption (n : Nat) : Option Int → List Byte
  | none => 0 :: be n 0
  | some v => 1 :: be n v

end Sys2Proof.Machine
end

