-- ==== Sys2Proof/Config.lean ====
section
/-! DEFINITION. What the part fixes once: capacities, bounds and identity (chapters 1 to 10). The manual leaves no
value to the implementation and no result open, so no constant of this file is a free value. -/

namespace Sys2Proof.Config

/-- Largest magnitude of a channel count, 2^39 − 1 (R16). -/
def countLimit : Int := 549755813887

/-- Largest magnitude of an axis value, preset, nominal, start or stop, 2^47 − 1 (R55, R77, R127, R147). -/
def lengthLimit : Int := 140737488355327

/-- Largest magnitude of a velocity in picometres per gate (R94). -/
def velocityLimit : Int := 2147483647

/-- Largest refractivity in refractivity units (R34). -/
def refractivityLimit : Int := 4000000

/-- Number of capture slots (R108). -/
def captureSlots : Nat := 8

/-- Capacity of the main ring (R166). -/
def mainCapacity : Nat := 512

/-- Capacity of the exception ring (R166). -/
def exceptionCapacity : Nat := 128

/-- Capacity of the graduation table (R123). -/
def tableCapacity : Nat := 4096

/-- Largest half-window (R127). -/
def halfWindowLimit : Int := 1000000000

/-- Device code returned by IDENTIFY (R183). -/
def deviceCode : Int := 4120

/-- Revision returned by IDENTIFY (R183). -/
def revision : Int := 1

/-- Bytes of one servo frame (R185). -/
def frameBytes : Nat := 23

/-- Values of one sample set (R1). -/
def setValues : Nat := 8

end Sys2Proof.Config
end

