-- ==== Sys2Proof/Machine/State.lean ====
section
/-! DEFINITION. Everything the manual gives the part to hold, block by block, as plain data; the reasons a step can
stop; and the state after each reset. -/

namespace Sys2Proof.Machine

/-! ## Fringe channels (chapter 1) -/

/-- Mode of operation of a Channel Tracker (section 1.2). -/
inductive ChannelState where
  | off
  | settling
  | tracking
  | lost
  deriving DecidableEq, Repr

/-- Why a channel last entered LOST; NONE in every other state (section 1.2). -/
inductive LossCause where
  | none
  | signalLow
  | clipped
  | overspeed
  | overrange
  deriving DecidableEq, Repr

/-- Where a channel's quadrature pair comes from (R3). -/
inductive Source where
  | input
  | generator
  deriving DecidableEq, Repr

/-- One Channel Tracker (section 1.2). -/
structure Channel where
  state : ChannelState
  cause : LossCause
  /-- accumulated phase, pu -/
  count : Int
  lastPhase : Nat
  settle : Nat
  badRun : Nat
  breaks : Word32
  source : Source
  deriving DecidableEq, Repr

/-- A channel after either reset (R4). -/
def Channel.reset : Channel :=
  { state := .off, cause := .none, count := 0, lastPhase := 0, settle := 0, badRun := 0, breaks := 0, source := .input }

/-! ## Laser lock and refractivity (chapter 2) -/

/-- Lock states of the Laser Lock Monitor (section 2.1). -/
inductive LockState where
  | unlocked
  | settling
  | locked
  deriving DecidableEq, Repr

/-- The Laser Lock Monitor: its true state and settle counter (R28, R31). -/
structure LockMonitor where
  state : LockState
  settle : Nat
  deriving DecidableEq, Repr

/-- Whether tracker drift enters N (section 2.2). -/
inductive TrackerState where
  | absent
  | following
  | frozen
  deriving DecidableEq, Repr

/-- Whether an absolute update has been applied recently (section 2.2). -/
inductive EnvState where
  | fresh
  | stale
  deriving DecidableEq, Repr

/-- Outcome of the most recent update event (section 2.2). -/
inductive UpdateResult where
  | none
  | pending
  | applied
  | clamped
  | held
  | ignored
  | malformed
  deriving DecidableEq, Repr

/-- The parameter values the Refractivity Unit adopted at the last gate end (R36). -/
structure RefrConfig where
  tracker : Option (Fin 4)
  /-- tracker length, µm -/
  length : Int
  /-- vacuum wavelength, fm -/
  lambda : Int
  /-- path factor of the tracker channel; absent with the tracker -/
  pathK : Option Int
  vacuum : Bool
  deriving DecidableEq, Repr

/-- The Refractivity Unit (section 2.2). -/
structure Refractivity where
  nInUse : Int
  nBase : Int
  tBase : Int
  tracker : TrackerState
  env : EnvState
  /-- sample sets since the last applied update, while FRESH -/
  age : Nat
  pending : Option Int
  held : Option Int
  result : UpdateResult
  config : RefrConfig
  /-- whether vacuum mode is in force: the adopted setting, from the arrival after its gate end on (R42) -/
  vacuumInForce : Bool
  /-- the value formed at the last gate end, until the next arrival brings it into use (R34) -/
  nFormed : Option Int
  deriving DecidableEq, Repr

/-! ## Axes and datums (chapter 4) -/

/-- Whether an axis exists and measures from its datum (section 4.1). -/
inductive AxisState where
  | undefined
  | unreferenced
  | referenced
  | broken
  deriving DecidableEq, Repr

/-- One axis of the Axis Unit; its weights are parameters (section 4.1). -/
structure Axis where
  state : AxisState
  offset : Int
  nDat : Int
  epoch : Nat
  datumBreaks : Four Word32
  deriving DecidableEq, Repr

/-- The states of a datum slot (section 4.3). -/
inductive SlotState where
  | idle
  | deferred
  | armed
  deriving DecidableEq, Repr

/-- The two links that may own a datum slot (section 4.3). -/
inductive Owner where
  | servo
  | measurement
  deriving DecidableEq, Repr

/-- What applies a datum (section 4.3). -/
inductive DatumSource where
  | ref0
  | ref1
  | immediate
  deriving DecidableEq, Repr

/-- How the most recent request held by a slot ended (section 4.3). -/
inductive DatumOutcome where
  | none
  | done
  | notTracking
  | timeout
  | axisUndefined
  | cancelled
  deriving DecidableEq, Repr

/-- One datum slot (section 4.3). -/
structure DatumSlot where
  state : SlotState
  owner : Option Owner
  source : DatumSource
  edge : Edge
  preset : Int
  timeout : Nat
  age : Nat
  outcome : DatumOutcome
  deriving DecidableEq, Repr

/-- A datum slot after either reset (R88). -/
def DatumSlot.reset : DatumSlot :=
  { state := .idle, owner := none, source := .ref0, edge := .rising, preset := 0, timeout := 0, age := 0,
    outcome := .none }

/-! ## Motion Monitor (chapter 5) -/

/-- Sign of a velocity; NONE when it is invalid (section 5.2). -/
inductive Sign where
  | positive
  | negative
  | zero
  | none
  deriving DecidableEq, Repr

/-- The Motion Monitor's state for one axis (section 5.2). -/
structure AxisMotion where
  prevSum : Option Int
  velocity : Int
  valid : Bool
  reported : Int
  sign : Sign
  reference : Option Int
  steadyCount : Nat
  steady : Bool
  fast : Bool
  deriving DecidableEq, Repr

/-- An axis of the Motion Monitor after either reset, or at a gate end while UNDEFINED (R93, R102). -/
def AxisMotion.reset : AxisMotion :=
  { prevSum := none, velocity := 0, valid := false, reported := 0, sign := .none, reference := none, steadyCount := 0,
    steady := false, fast := false }

/-- The Motion Monitor: gate in progress and per-axis results (sections 5.1, 5.2). -/
structure Motion where
  gateCounter : Nat
  gateLength : Nat
  gateNumber : Word32
  axes : Four AxisMotion
  deriving DecidableEq, Repr

/-- One axis of a gate report (R99). -/
structure ReportAxis where
  defined : Bool
  value : Int
  clamped : Bool
  velocity : Int
  reported : Int
  valid : Bool
  sign : Sign
  steady : Bool
  fast : Bool
  deriving DecidableEq, Repr

/-- A gate report (R99). -/
structure GateReport where
  gate : Word32
  length : Nat
  tNs : Int
  axes : Four ReportAxis
  deriving DecidableEq, Repr

/-- The blocks that have still to take the last gate end, each as an event of its own (R35, R99): for the Refractivity
Unit the gate end, for the others the gate report. It belongs to the model: the part stores no report, and everything
here is taken before the next arrival. -/
structure Due where
  refractivity : Bool
  capture : Option GateReport
  scan : Option GateReport
  datum : Bool
  hold : Bool
  test : Bool
  deriving DecidableEq, Repr

/-- No block has a gate end to take. -/
def Due.nothing : Due :=
  { refractivity := false, capture := none, scan := none, datum := false, hold := false, test := false }

/-! ## Capture Unit (chapter 6) -/

/-- A listed axis as a capture latches it (R110). -/
structure LatchedAxis where
  axis : Fin 4
  value : Int
  clamped : Bool
  epoch : Nat
  state : AxisState
  /-- whether any weighted channel of the axis had source GENERATOR at the latch -/
  generator : Bool
  deriving DecidableEq, Repr

/-- What a capture latches of each axis, listed or not (R73). -/
structure AxisContext where
  state : AxisState
  epoch : Nat
  offset : Int
  nDat : Int
  deriving DecidableEq, Repr

/-- What a capture latches of every channel (R26). The counts are not kept once the values are formed (R110). -/
structure ChannelContext where
  state : ChannelState
  source : Source
  deriving DecidableEq, Repr

/-- A capture latch: one sample set and its context (R26, R73, R110). -/
structure Latch where
  /-- ascending by axis number -/
  axes : List LatchedAxis
  channels : Four ChannelContext
  context : Four AxisContext
  n : Int
  laserNotLocked : Bool
  lockForced : Bool
  envStale : Bool
  trackerFrozen : Bool
  test : Bool
  scanId : Nat
  deriving DecidableEq, Repr

/-- Whether a LINE capture lies inside a scan, and on which scan axis (R104, R113). -/
inductive InsideMark where
  | outside
  | inside (axis : Fin 4)
  | scanEnded (axis : Fin 4)
  deriving DecidableEq, Repr

/-- The requester of a STROBE capture (section 6.1). -/
inductive StrobeSource where
  | command
  | servo
  deriving DecidableEq, Repr

/-- How a scan ended (section 8.1). -/
inductive EndCause where
  | stopReached
  | closed
  | axisBroken
  | laserUnlock
  deriving DecidableEq, Repr

/-- The summary of an ended scan (R156). -/
structure Summary where
  matched : Nat
  stray : Nat
  double : Nat
  outOfOrder : Nat
  missed : Nat
  cause : EndCause
  deriving DecidableEq, Repr

/-- Kind and source of a capture, with what only that kind carries (section 6.1). -/
inductive CaptureKind where
  | line (input : LineInput) (mark : InsideMark)
  | strobe (source : StrobeSource)
  | datum (source : DatumSource)
  | scanEnd (summary : Summary)
  deriving DecidableEq, Repr

/-- An IN_FLIGHT capture slot (section 6.3). -/
structure Capture where
  seq : Word32
  kind : CaptureKind
  gate : Word32
  latch : Latch
  deriving DecidableEq, Repr

/-- The Capture Unit. The slots are not numbered to the outside: the IN_FLIGHT ones stand here, oldest first, and the
rest of the eight are FREE (section 6.2). -/
structure CaptureUnit where
  nextSeq : Word32
  inFlight : List Capture
  deriving DecidableEq, Repr

/-! ## Graduation Matcher (chapter 7) -/

/-- One entry of the graduation table (section 7.1). -/
structure Entry where
  index : Nat
  nominal : Int
  halfWindow : Int
  retained : Bool
  hits : Nat
  firstHit : Option Word32
  deriving DecidableEq, Repr

/-- The Graduation Matcher: table in ascending order of nominal, last matched nominal and scan cursor (section 7.3). -/
structure Matcher where
  table : List Entry
  lastMatched : Option Int
  cursor : Option Nat
  deriving DecidableEq, Repr

/-- Result of a lookup (R137 to R140). -/
inductive MatchResult where
  | matched
  | double
  | stray
  | outOfOrder
  deriving DecidableEq, Repr

/-- The match part of a LINE record; index and deviation absent for STRAY (R141). -/
structure MatchPart where
  result : MatchResult
  index : Option Nat
  deviation : Option Int
  deriving DecidableEq, Repr

/-- Why a LINE record stands in the exception ring (R142). -/
inductive Reason where
  | outsideScan
  | axisNotReferenced
  | noVelocity
  | fast
  | stray
  | double
  | outOfOrder
  deriving DecidableEq, Repr

/-- Direction of a LINE record (R117). -/
inductive LineDirection where
  | forward
  | reverse
  | unknown
  deriving DecidableEq, Repr

/-! ## Records and rings (sections 6.5, 9.1) -/

/-- One entry of a record's axis list (R120). -/
structure RecordAxis where
  axis : Fin 4
  value : Int
  epoch : Nat
  state : AxisState
  /-- reported velocity in µm/s; absent when the report declared it invalid -/
  velocity : Option Int
  deriving DecidableEq, Repr

/-- The nine flags of a record (R116). -/
structure RecordFlags where
  laserNotLocked : Bool
  lockForced : Bool
  envStale : Bool
  trackerFrozen : Bool
  test : Bool
  axisClamp : Bool
  noVelocity : Bool
  notSteady : Bool
  fast : Bool
  deriving DecidableEq, Repr

/-- A finished capture (section 6.5). The kind carries source, line input and summary. -/
structure Record where
  seq : Word32
  kind : CaptureKind
  gate : Word32
  scanId : Nat
  n : Int
  flags : RecordFlags
  lostBefore : Nat
  axes : List RecordAxis
  direction : Option LineDirection
  matchPart : Option MatchPart
  reason : Option Reason
  deriving DecidableEq, Repr

/-- One ring of the Record Store; the head is the first of the list (section 9.1). -/
structure Ring where
  records : List Record
  lost : Nat
  headUnderRead : Bool
  deriving DecidableEq, Repr

/-- A ring after either reset (R173). -/
def Ring.reset : Ring := { records := [], lost := 0, headUnderRead := false }

/-! ## Scan Controller and Hold Controller (chapter 8) -/

/-- States of the scan (section 8.1). -/
inductive ScanState where
  | idle
  | armed
  | active
  | aborted
  deriving DecidableEq, Repr

/-- Direction of a scan (section 8.1). -/
inductive Direction where
  | forward
  | reverse
  deriving DecidableEq, Repr

/-- The scan as SCAN OPEN gave it (section 8.1). -/
structure Descriptor where
  id : Nat
  axis : Fin 4
  line : LineInput
  direction : Direction
  start : Int
  stop : Int
  deriving DecidableEq, Repr

/-- The Scan Controller (section 8.1). -/
structure Scan where
  state : ScanState
  descriptor : Option Descriptor
  matched : Nat
  stray : Nat
  double : Nat
  outOfOrder : Nat
  endCause : Option EndCause
  missed : Option Nat
  gateAtActive : Option Word32
  deriving DecidableEq, Repr

/-- The Scan Controller after either reset (R146). -/
def Scan.reset : Scan :=
  { state := .idle, descriptor := none, matched := 0, stray := 0, double := 0, outOfOrder := 0, endCause := none,
    missed := none, gateAtActive := none }

/-- States of the carriage hold (section 8.5). -/
inductive HoldState where
  | run
  | holdPending
  | holding
  | releasePending
  deriving DecidableEq, Repr

/-- The Hold Controller (section 8.5). -/
structure Hold where
  state : HoldState
  age : Nat
  unseen : Bool
  deriving DecidableEq, Repr

/-! ## Event Unit (section 9.3) -/

/-- The twelve event flags, in the order of their bits (section 9.3, section 10.1). -/
inductive Flag where
  | mainReady
  | excReady
  | recordsLost
  | channelLost
  | axisBroken
  | datumDone
  | datumFailed
  | scanEnded
  | holdUnseen
  | laserUnlocked
  | envStale
  | testAdvanced
  deriving DecidableEq, Repr

/-- The Event Unit: 2^k for flag k in both sets (section 10.1). -/
structure Events where
  pending : BitVec 12
  mask : BitVec 12
  deriving DecidableEq, Repr

/-! ## Ports (chapter 10) -/

/-- The part's side of one measurement-link transaction (section 10.1). -/
structure Transaction where
  /-- the command byte, once received -/
  code : Option Byte
  /-- argument bytes received -/
  arguments : Nat
  taken : Bool
  /-- the status byte and the response bytes, once the command is taken -/
  out : List Byte
  deriving DecidableEq, Repr

/-- The measurement link. `selected` is the level of MP_SEL (asserted); the transaction state is IDLE while
`transaction` is absent and IN_COMMAND otherwise (section 10.1). -/
structure MeasurementLink where
  selected : Bool
  transaction : Option Transaction
  deriving DecidableEq, Repr

/-- Result of a servo request (R186). -/
inductive RequestResult where
  | none
  | accepted
  | deferred
  | datumBusy
  | notOwner
  | notTracking
  | axisUndefined
  | noSlot
  deriving DecidableEq, Repr

/-- One slot of a servo frame (R184, R187). -/
structure FrameSlot where
  channelHold : Bool
  state : AxisState
  servo : Int
  deriving DecidableEq, Repr

/-- A latched servo frame (R184) and the count of its bytes clocked. -/
structure Frame where
  counter : Byte
  hold : Bool
  lock : LockState
  stale : Bool
  scanActive : Bool
  result : RequestResult
  slots : Four FrameSlot
  clocked : Nat
  deriving DecidableEq, Repr

/-- The servo link (section 10.2). The frame state is NO_FRAME while `frame` is absent. `request` is the request byte
of a completed frame whose request has still to be taken (R185, R186). -/
structure ServoLink where
  counter : Byte
  frame : Option Frame
  result : RequestResult
  latch : Option Latch
  request : Option Byte
  deriving DecidableEq, Repr

/-- The environment link (section 10.3). The assembler is IDLE while `message` is absent, and RECEIVING with the
pointer byte first and the data bytes after it otherwise. `out` is the last status block sent. `acknowledged` is how many
bytes of the transaction that the last START began the part acknowledges, its address counted as the first (R188). -/
structure EnvironmentLink where
  message : Option (List Byte)
  out : List Byte
  acknowledged : Nat
  deriving DecidableEq, Repr

/-! ## Test Generator (chapter 11) -/

/-- The four patterns in their order (chapter 11). -/
inductive Pattern where
  | constant
  | shuttle
  | dropout
  | jump
  deriving DecidableEq, Repr

/-- The Test Generator (chapter 11). -/
structure Generator where
  running : Bool
  psi : Nat
  pattern : Pattern
  /-- shuttle sign −1 -/
  reversed : Bool
  position : Nat
  jump : Bool
  advance : Nat
  deriving DecidableEq, Repr

/-- The Test Generator after either reset (R191). -/
def Generator.reset : Generator :=
  { running := false, psi := 0, pattern := .constant, reversed := false, position := 0, jump := false, advance := 0 }

/-! ## Parameter store (R181) -/

/-- The parameters of one channel. -/
structure ChannelParams where
  offsetS : Int
  offsetC : Int
  gainC : Int
  skew : Int
  ampMin : Int
  ampMax : Int
  pathK : Int
  deadPath : Int
  deriving DecidableEq, Repr

/-- The parameter store. The preset of an axis is held whole; its two halves are views of it (R182). -/
structure Params where
  channel : Four ChannelParams
  settleSel : Nat
  lossPersist : Nat
  stepLimit : Int
  lockSettle : Nat
  lockOverride : Bool
  nDefault : Int
  trackerCh : Option (Fin 4)
  trackerLen : Int
  envStepMax : Int
  envStaleLimit : Nat
  vacuum : Bool
  lambda : Int
  servoUnit : Int
  /-- by axis, then by channel -/
  weight : Four (Four Int)
  servoPreset : Four Int
  gateSel : Nat
  tNs : Int
  hyst : Int
  stableGates : Nat
  vMax : Int
  lineEdge0 : Edge
  lineEdge1 : Edge
  lineLatency0 : Int
  lineLatency1 : Int
  /-- LINE_OUTSIDE is KEEP -/
  keepOutside : Bool
  captureAxes : BitVec 4
  highWater : Nat
  lowWater : Nat
  holdTimeout : Nat
  /-- absent: EMPTY -/
  servoMap : Four (Option (Fin 4))
  testAmp : Nat
  testRate : Int
  testPeriod : Nat
  testDrop : Nat
  testPatterns : BitVec 4
  testAdvance : Nat
  deriving DecidableEq, Repr

/-- The defaults of a channel's parameters (R5, section 3.3). -/
def ChannelParams.default : ChannelParams :=
  { offsetS := 0, offsetC := 0, gainC := 32768, skew := 0, ampMin := 3000, ampMax := 30000, pathK := 4, deadPath := 0 }

/-- The parameter store after a device reset (R181, R67). -/
def Params.default : Params :=
  { channel := .fill .default
    settleSel := 1
    lossPersist := 8
    stepLimit := 384
    lockSettle := 2
    lockOverride := false
    nDefault := 2700000
    trackerCh := none
    trackerLen := 100000
    envStepMax := 50
    envStaleLimit := 610
    vacuum := false
    lambda := 632991213
    servoUnit := 1000
    weight := ⟨⟨65536, 0, 0, 0⟩, .fill 0, .fill 0, .fill 0⟩
    servoPreset := .fill 0
    gateSel := 2
    tNs := 250
    hyst := 20000
    stableGates := 8
    vMax := 50000
    lineEdge0 := .rising
    lineEdge1 := .rising
    lineLatency0 := 0
    lineLatency1 := 0
    keepOutside := false
    captureAxes := 1
    highWater := 384
    lowWater := 128
    holdTimeout := 200
    servoMap := ⟨some 0, some 1, some 2, some 3⟩
    testAmp := 16000
    testRate := 32
    testPeriod := 4096
    testDrop := 16
    testPatterns := 1
    testAdvance := 0 }

/-- Whether all four weights of an axis are 0 (R68). -/
def Params.allZero (p : Params) (axis : Fin 4) : Bool :=
  indices.all fun c => (p.weight.get axis).get c == 0

/-- An axis after either reset, given whether it has a weight (R74). -/
def Axis.reset (undefined : Bool) : Axis :=
  { state := if undefined then .undefined else .unreferenced, offset := 0, nDat := 0, epoch := 0,
    datumBreaks := .fill 0 }

/-- The configuration that the stored parameters now describe (R36, R43). -/
def Params.refrConfig (p : Params) : RefrConfig :=
  { tracker := p.trackerCh, length := p.trackerLen, lambda := p.lambda,
    pathK := p.trackerCh.map fun c => (p.channel.get c).pathK, vacuum := p.vacuum }

/-- The Refractivity Unit after either reset (R43). -/
def Refractivity.reset (p : Params) : Refractivity :=
  { nInUse := if p.vacuum then 0 else p.nDefault
    nBase := p.nDefault
    tBase := 0
    tracker := if p.trackerCh.isSome then .frozen else .absent
    env := if p.vacuum then .fresh else .stale
    age := 0
    pending := none
    held := none
    result := .none
    config := p.refrConfig
    vacuumInForce := p.vacuum
    nFormed := none }

/-- The Motion Monitor after either reset (R102). -/
def Motion.reset (p : Params) : Motion :=
  { gateCounter := 0, gateLength := 256 * 2 ^ p.gateSel, gateNumber := 0, axes := .fill .reset }

/-! ## The machine -/

/-- The part, with the queue of the commands and events that are to reach it. -/
structure State where
  /-- commands and events waiting, first in, first out -/
  pending : List Instr
  /-- RESET_N is held low -/
  resetLow : Bool
  /-- values of the incomplete sample set, in the order delivered (R1) -/
  samplePort : List (BitVec 16)
  params : Params
  channels : Four Channel
  lock : LockMonitor
  refr : Refractivity
  axes : Four Axis
  slots : Four DatumSlot
  motion : Motion
  due : Due
  capture : CaptureUnit
  matcher : Matcher
  scan : Scan
  hold : Hold
  main : Ring
  exc : Ring
  events : Events
  mp : MeasurementLink
  sv : ServoLink
  env : EnvironmentLink
  gen : Generator
  deriving DecidableEq, Repr

/-- Every block at its reset value, with the given parameter store and graduation table (the resets of chapters 1 to
11). The measurement link is IDLE with MP_SEL deasserted. -/
def State.afterReset (p : Params) (table : List Entry) : State :=
  { pending := []
    resetLow := false
    samplePort := []
    params := p
    channels := .fill .reset
    lock := { state := .unlocked, settle := 0 }
    refr := .reset p
    axes := .ofFn fun j => .reset (p.allZero j)
    slots := .fill .reset
    motion := .reset p
    due := .nothing
    capture := { nextSeq := 0, inFlight := [] }
    matcher := { table := table, lastMatched := none, cursor := none }
    scan := .reset
    hold := { state := .run, age := 0, unseen := false }
    main := .reset
    exc := .reset
    events := { pending := 0, mask := 0 }
    mp := { selected := false, transaction := none }
    sv := { counter := 0, frame := none, result := .none, latch := none, request := none }
    env := { message := none, out := [], acknowledged := 0 }
    gen := .reset }

/-- The part after a device reset (power-up). -/
def State.reset : State := .afterReset .default []

/-! ## Ways a step can stop -/

/-- Faults. The manual gives no command and no event of the part an outcome that stops it, so there is none. -/
inductive Fault where
  deriving DecidableEq, Repr

/-- Refusals. -/
inductive Refusal where
  /-- Answered by the dispatch alone, for a row of the opcode table whose meaning is not written yet; no row of this
  model is. Safe: nothing is claimed about such a row. -/
  | notModelled (mnemonic : String)
  deriving DecidableEq, Repr

end Sys2Proof.Machine
end

