-- ==== Sys2Proof/Machine/Flags.lean ====
section
/-! DEFINITION. The Event Unit's flags (section 9.3) and the flag fields of a record (R116) and of a servo frame. -/

namespace Sys2Proof.Machine

/-- Bit of an event flag in the pending set and the mask (section 10.1). -/
def Flag.bit : Flag → Nat
  | .mainReady => 0
  | .excReady => 1
  | .recordsLost => 2
  | .channelLost => 3
  | .axisBroken => 4
  | .datumDone => 5
  | .datumFailed => 6
  | .scanEnded => 7
  | .holdUnseen => 8
  | .laserUnlocked => 9
  | .envStale => 10
  | .testAdvanced => 11

/-- The set that holds one flag. -/
def Flag.set (f : Flag) : BitVec 12 := 1 <<< f.bit

/-- Whether flag `f` is pending. -/
def State.flagPending (s : State) (f : Flag) : Bool := s.events.pending.getLsbD f.bit

/-- A flag becomes pending, whatever the mask (R174). -/
def raise (f : Flag) (s : State) : State :=
  { s with events := { s.events with pending := s.events.pending ||| f.set } }

/-- A flag raised where a condition holds. -/
def raiseIf (b : Bool) (f : Flag) (s : State) : State := if b then raise f s else s

/-- MP_ATTN: some flag is both pending and enabled (R175). -/
def State.mpAttn (s : State) : Bool := s.events.pending &&& s.events.mask != 0

/-- One bit of a flag field. -/
def bitIf (b : Bool) (k : Nat) : Nat := if b then 2 ^ k else 0

/-- The flag field of a record (R190). -/
def RecordFlags.code (f : RecordFlags) : Nat :=
  bitIf f.laserNotLocked 0 + bitIf f.lockForced 1 + bitIf f.envStale 2 + bitIf f.trackerFrozen 3 + bitIf f.test 4
    + bitIf f.axisClamp 5 + bitIf f.noVelocity 6 + bitIf f.notSteady 7 + bitIf f.fast 8

end Sys2Proof.Machine
end

