-- ==== Sys2Proof/Machine/Operands.lean ====
section
/-! DEFINITION. The argument codes of section 10.1, the parameter table of R181, and the codes in which states and
results leave the part (R183, R186, R190). -/

namespace Sys2Proof.Machine

/-! ## Enumerated arguments (R180): absent where the code names no member of the set -/

/-- A channel or axis number in an argument byte: 0..3. -/
def memberOf (b : Byte) : Option (Fin 4) := if h : b.toNat < 4 then some ⟨b.toNat, h⟩ else none

/-- Datum source: 0 REF0, 1 REF1, 2 IMMEDIATE. -/
def datumSourceOf (b : Byte) : Option DatumSource :=
  if b = 0 then some .ref0 else if b = 1 then some .ref1 else if b = 2 then some .immediate else none

/-- Edge: 0 RISING, 1 FALLING. -/
def edgeOf (b : Byte) : Option Edge := if b = 0 then some .rising else if b = 1 then some .falling else none

/-- A two-valued code: retained (0 CLEAR, 1 SET), force (0 NONE, 1 FORCE), flush option (0 NONE, 1 ALL), read mode
(0 BY_POSITION, 1 BY_INDEX). -/
def switchOf (b : Byte) : Option Bool := if b = 0 then some false else if b = 1 then some true else none

/-- Line source: 0 LINE0, 1 LINE1. -/
def lineOf (b : Byte) : Option LineInput := if b = 0 then some .line0 else if b = 1 then some .line1 else none

/-- Direction: 0 FORWARD, 1 REVERSE. -/
def directionOf (b : Byte) : Option Direction :=
  if b = 0 then some .forward else if b = 1 then some .reverse else none

/-- A length lies in ±(2^47 − 1). -/
def inLengthRange (v : Int) : Bool := decide (-Config.lengthLimit ≤ v ∧ v ≤ Config.lengthLimit)

/-- The datum source that a reference input is. -/
def sourceOfRef : RefInput → DatumSource
  | .ref0 => .ref0
  | .ref1 => .ref1

/-! ## The parameter table (R181) -/

/-- Number of a parameter (R181). -/
def paramNumber : Param → Nat
  | .offsetS c => 0x0010 + c
  | .offsetC c => 0x0014 + c
  | .gainC c => 0x0018 + c
  | .skew c => 0x001C + c
  | .ampMin c => 0x0020 + c
  | .ampMax c => 0x0024 + c
  | .pathK c => 0x0028 + c
  | .deadPath c => 0x002C + c
  | .settleSel => 0x0030
  | .lossPersist => 0x0031
  | .stepLimit => 0x0032
  | .lockSettle => 0x0040
  | .lockOverride => 0x0041
  | .nDefault => 0x0050
  | .trackerCh => 0x0051
  | .trackerLen => 0x0052
  | .envStepMax => 0x0053
  | .envStaleLimit => 0x0054
  | .vacuum => 0x0055
  | .lambda => 0x0060
  | .servoUnit => 0x0061
  | .weight j c => 0x0070 + 4 * j + c
  | .servoPresetH j => 0x0080 + j
  | .servoPresetL j => 0x0084 + j
  | .gateSel => 0x0090
  | .tNs => 0x0091
  | .hyst => 0x0092
  | .stableGates => 0x0093
  | .vMax => 0x0094
  | .lineEdge .line0 => 0x00A0
  | .lineEdge .line1 => 0x00A1
  | .lineLatency .line0 => 0x00A2
  | .lineLatency .line1 => 0x00A3
  | .lineOutside => 0x00A4
  | .captureAxes => 0x00A5
  | .highWater => 0x00B0
  | .lowWater => 0x00B1
  | .holdTimeout => 0x00B2
  | .servoMap i => 0x00C0 + i
  | .testAmp => 0x00D0
  | .testRate => 0x00D1
  | .testPeriod => 0x00D2
  | .testDrop => 0x00D3
  | .testPatterns => 0x00D4
  | .testAdvance => 0x00D5

/-- Every parameter of the table. -/
def allParams : List Param :=
  indices.map .offsetS ++ indices.map .offsetC ++ indices.map .gainC ++ indices.map .skew ++ indices.map .ampMin
    ++ indices.map .ampMax ++ indices.map .pathK ++ indices.map .deadPath
    ++ [.settleSel, .lossPersist, .stepLimit, .lockSettle, .lockOverride, .nDefault, .trackerCh, .trackerLen,
        .envStepMax, .envStaleLimit, .vacuum, .lambda, .servoUnit]
    ++ indices.map (.weight 0) ++ indices.map (.weight 1) ++ indices.map (.weight 2) ++ indices.map (.weight 3)
    ++ indices.map .servoPresetH ++ indices.map .servoPresetL
    ++ [.gateSel, .tNs, .hyst, .stableGates, .vMax, .lineEdge .line0, .lineEdge .line1, .lineLatency .line0,
        .lineLatency .line1, .lineOutside, .captureAxes, .highWater, .lowWater, .holdTimeout]
    ++ indices.map .servoMap
    ++ [.testAmp, .testRate, .testPeriod, .testDrop, .testPatterns, .testAdvance]

/-- The parameter that a number names; absent where the number is not in the table. -/
def paramOfNumber (n : Nat) : Option Param := allParams.find? fun p => paramNumber p == n

/-- The two kinds of R181: numeric with a range, or enumerated with its codes. -/
inductive ParamKind where
  | numeric (lo hi : Int)
  | codes (values : List Int)
  deriving DecidableEq, Repr

/-- The integers 0..`n` − 1. -/
def codesBelow (n : Nat) : List Int := (List.range n).map fun k => (k : Int)

/-- Kind of a parameter. The ranges of AMP_MIN, AMP_MAX, HIGH_WATER and LOW_WATER are those before the adjustment that
keeps each pair in order (R6, R163). -/
def paramKind : Param → ParamKind
  | .offsetS _ | .offsetC _ | .skew _ => .numeric (-4096) 4095
  | .gainC _ => .numeric 16384 65535
  | .ampMin _ | .ampMax _ => .numeric 64 32767
  | .pathK _ => .codes [2, 4, 8]
  | .deadPath _ => .numeric 0 2000000
  | .settleSel | .lockSettle | .gateSel => .codes (codesBelow 4)
  | .lossPersist => .numeric 1 64
  | .stepLimit => .numeric 128 500
  | .lockOverride | .vacuum | .lineOutside | .lineEdge _ => .codes (codesBelow 2)
  | .nDefault => .numeric 0 4000000
  | .trackerCh => .codes [0, 1, 2, 3, 255]
  | .trackerLen => .numeric 1000 1000000
  | .envStepMax => .numeric 0 100000
  | .envStaleLimit => .numeric 1 4095
  | .lambda => .numeric 400000000 1100000000
  | .servoUnit => .codes [1, 10, 100, 1000]
  | .weight _ _ => .numeric (-131072) 131071
  | .servoPresetH _ => .numeric (-32768) 32767
  | .servoPresetL _ => .numeric 0 4294967295
  | .tNs => .numeric 100 10000
  | .hyst => .numeric 0 16777215
  | .stableGates => .numeric 1 255
  | .vMax => .numeric 1 1000000
  | .lineLatency _ => .numeric 0 65535
  | .captureAxes | .testPatterns => .codes (codesBelow 16)
  | .highWater => .numeric 1 512
  | .lowWater => .numeric 0 511
  | .holdTimeout => .numeric 1 65535
  | .servoMap _ => .codes (codesBelow 5)
  | .testAmp => .numeric 0 32767
  | .testRate => .numeric (-480) 480
  | .testPeriod | .testDrop => .numeric 1 65535
  | .testAdvance => .numeric 0 255

/-- Whether a parameter enters the position arithmetic, and is therefore closed to writes while a scan is open
(R158). -/
def entersArithmetic : Param → Bool
  | .lambda | .pathK _ | .deadPath _ | .weight _ _ | .trackerCh | .trackerLen | .vacuum | .gateSel | .tNs
  | .lineLatency _ => true
  | _ => false

/-- The 4-byte value field: signed, except for SERVO_PRESET_L (R181, R182). -/
def paramField : Param → BitVec 32 → Int
  | .servoPresetL _, v => v.toNat
  | _, v => v.toInt

/-- SERVO_PRESET_H of a preset (R182). -/
def presetHigh (preset : Int) : Int := preset / 2 ^ 32

/-- SERVO_PRESET_L of a preset (R182). -/
def presetLow (preset : Int) : Int := preset % 2 ^ 32

/-- Edge code in a parameter: 0 RISING, 1 FALLING. -/
def edgeCode : Edge → Int
  | .rising => 0
  | .falling => 1

/-- 0 or 1. -/
def switchCode (b : Bool) : Int := if b then 1 else 0

/-- A member number, or the code of its absence. -/
def memberCode (absent : Int) : Option (Fin 4) → Int
  | none => absent
  | some c => (c : Nat)

/-- The member that a valid parameter value names; absent for every other value. -/
def memberOfValue (v : Int) : Option (Fin 4) :=
  if v = 0 then some 0 else if v = 1 then some 1 else if v = 2 then some 2 else if v = 3 then some 3 else none

/-- The stored value of a parameter, as GET PARAM reports it (R181). -/
def getParam (p : Params) : Param → Int
  | .offsetS c => (p.channel.get c).offsetS
  | .offsetC c => (p.channel.get c).offsetC
  | .gainC c => (p.channel.get c).gainC
  | .skew c => (p.channel.get c).skew
  | .ampMin c => (p.channel.get c).ampMin
  | .ampMax c => (p.channel.get c).ampMax
  | .pathK c => (p.channel.get c).pathK
  | .deadPath c => (p.channel.get c).deadPath
  | .settleSel => p.settleSel
  | .lossPersist => p.lossPersist
  | .stepLimit => p.stepLimit
  | .lockSettle => p.lockSettle
  | .lockOverride => switchCode p.lockOverride
  | .nDefault => p.nDefault
  | .trackerCh => memberCode 255 p.trackerCh
  | .trackerLen => p.trackerLen
  | .envStepMax => p.envStepMax
  | .envStaleLimit => p.envStaleLimit
  | .vacuum => switchCode p.vacuum
  | .lambda => p.lambda
  | .servoUnit => p.servoUnit
  | .weight j c => (p.weight.get j).get c
  | .servoPresetH j => presetHigh (p.servoPreset.get j)
  | .servoPresetL j => presetLow (p.servoPreset.get j)
  | .gateSel => p.gateSel
  | .tNs => p.tNs
  | .hyst => p.hyst
  | .stableGates => p.stableGates
  | .vMax => p.vMax
  | .lineEdge .line0 => edgeCode p.lineEdge0
  | .lineEdge .line1 => edgeCode p.lineEdge1
  | .lineLatency .line0 => p.lineLatency0
  | .lineLatency .line1 => p.lineLatency1
  | .lineOutside => switchCode p.keepOutside
  | .captureAxes => p.captureAxes.toNat
  | .highWater => p.highWater
  | .lowWater => p.lowWater
  | .holdTimeout => p.holdTimeout
  | .servoMap i => memberCode 4 (p.servoMap.get i)
  | .testAmp => p.testAmp
  | .testRate => p.testRate
  | .testPeriod => p.testPeriod
  | .testDrop => p.testDrop
  | .testPatterns => p.testPatterns.toNat
  | .testAdvance => p.testAdvance

/-- The parameters of one channel changed. -/
def Params.updateChannel (p : Params) (c : Fin 4) (f : ChannelParams → ChannelParams) : Params :=
  { p with channel := p.channel.set c (f (p.channel.get c)) }

/-- A value of a parameter put into the store. The value is one that the parameter may hold. A half of a preset joins
the other half as stored (R182). -/
def putParam (p : Params) : Param → Int → Params
  | .offsetS c, v => p.updateChannel c fun q => { q with offsetS := v }
  | .offsetC c, v => p.updateChannel c fun q => { q with offsetC := v }
  | .gainC c, v => p.updateChannel c fun q => { q with gainC := v }
  | .skew c, v => p.updateChannel c fun q => { q with skew := v }
  | .ampMin c, v => p.updateChannel c fun q => { q with ampMin := v }
  | .ampMax c, v => p.updateChannel c fun q => { q with ampMax := v }
  | .pathK c, v => p.updateChannel c fun q => { q with pathK := v }
  | .deadPath c, v => p.updateChannel c fun q => { q with deadPath := v }
  | .settleSel, v => { p with settleSel := v.toNat }
  | .lossPersist, v => { p with lossPersist := v.toNat }
  | .stepLimit, v => { p with stepLimit := v }
  | .lockSettle, v => { p with lockSettle := v.toNat }
  | .lockOverride, v => { p with lockOverride := v == 1 }
  | .nDefault, v => { p with nDefault := v }
  | .trackerCh, v => { p with trackerCh := memberOfValue v }
  | .trackerLen, v => { p with trackerLen := v }
  | .envStepMax, v => { p with envStepMax := v }
  | .envStaleLimit, v => { p with envStaleLimit := v.toNat }
  | .vacuum, v => { p with vacuum := v == 1 }
  | .lambda, v => { p with lambda := v }
  | .servoUnit, v => { p with servoUnit := v }
  | .weight j c, v => { p with weight := p.weight.set j ((p.weight.get j).set c v) }
  | .servoPresetH j, v => { p with servoPreset := p.servoPreset.set j (v * 2 ^ 32 + presetLow (p.servoPreset.get j)) }
  | .servoPresetL j, v => { p with servoPreset := p.servoPreset.set j (presetHigh (p.servoPreset.get j) * 2 ^ 32 + v) }
  | .gateSel, v => { p with gateSel := v.toNat }
  | .tNs, v => { p with tNs := v }
  | .hyst, v => { p with hyst := v }
  | .stableGates, v => { p with stableGates := v.toNat }
  | .vMax, v => { p with vMax := v }
  | .lineEdge .line0, v => { p with lineEdge0 := if v = 1 then .falling else .rising }
  | .lineEdge .line1, v => { p with lineEdge1 := if v = 1 then .falling else .rising }
  | .lineLatency .line0, v => { p with lineLatency0 := v }
  | .lineLatency .line1, v => { p with lineLatency1 := v }
  | .lineOutside, v => { p with keepOutside := v == 1 }
  | .captureAxes, v => { p with captureAxes := BitVec.ofInt 4 v }
  | .highWater, v => { p with highWater := v.toNat }
  | .lowWater, v => { p with lowWater := v.toNat }
  | .holdTimeout, v => { p with holdTimeout := v.toNat }
  | .servoMap i, v => { p with servoMap := p.servoMap.set i (memberOfValue v) }
  | .testAmp, v => { p with testAmp := v.toNat }
  | .testRate, v => { p with testRate := v }
  | .testPeriod, v => { p with testPeriod := v.toNat }
  | .testDrop, v => { p with testDrop := v.toNat }
  | .testPatterns, v => { p with testPatterns := BitVec.ofInt 4 v }
  | .testAdvance, v => { p with testAdvance := v.toNat }

/-- Whether a value is one of the codes of an enumerated parameter; every value passes for a numeric one. -/
def validCode (p : Param) (v : Int) : Bool :=
  match paramKind p with
  | .numeric _ _ => true
  | .codes values => values.contains v

/-- A value clamped to the range of a numeric parameter; itself for an enumerated one. -/
def clampParam (p : Param) (v : Int) : Int :=
  match paramKind p with
  | .numeric lo hi => clampTo lo hi v
  | .codes _ => v

/-- The store after a taken write of a valid value, and whether the write is answered CLAMPED: the range clamp, and
the adjustments of AMP_MIN and AMP_MAX (R6), of the water marks (R163) and of the preset (R182). -/
def storeParam (p : Params) (q : Param) (v : Int) : Params × Bool :=
  match q with
  | .ampMin c =>
    let high := (p.channel.get c).ampMax
    let w := if clampParam q v < high then clampParam q v else high - 1
    (putParam p q w, w != v)
  | .ampMax c =>
    let w := if clampParam q v = 64 then 65 else clampParam q v
    if (p.channel.get c).ampMin < w then (putParam p q w, w != v)
    else (putParam (putParam p q w) (.ampMin c) (w - 1), true)
  | .highWater =>
    let w := clampTo (p.lowWater + 1) 512 v
    (putParam p q w, w != v)
  | .lowWater =>
    let w := clampTo 0 (p.highWater - 1) v
    (putParam p q w, w != v)
  | .servoPresetH j | .servoPresetL j =>
    let formed := (putParam p q (clampParam q v)).servoPreset.get j
    let preset := clampTo (-Config.lengthLimit) Config.lengthLimit formed
    ({ p with servoPreset := p.servoPreset.set j preset }, clampParam q v != v || preset != formed)
  | _ => (putParam p q (clampParam q v), clampParam q v != v)

/-! ## Codes that leave the part -/

/-- Status codes of the measurement link (R179). -/
inductive Status where
  | ok
  | clamped
  | deferred
  | empty
  | badArgument
  | unknownCommand
  | scanOpen
  | scanBusy
  | notOpen
  | notAborted
  | badRange
  | axisNotReferenced
  | axisUndefined
  | notTracking
  | notLocked
  | envStale
  | datumBusy
  | notOwner
  | noSlot
  | conflict
  | tableFull
  | duplicateIndex
  | overlap
  | notFound
  | retained
  deriving DecidableEq, Repr

/-- Byte of a status (R179). -/
def Status.code : Status → Byte
  | .ok => 0x00
  | .clamped => 0x01
  | .deferred => 0x02
  | .empty => 0x03
  | .badArgument => 0x10
  | .unknownCommand => 0x11
  | .scanOpen => 0x12
  | .scanBusy => 0x13
  | .notOpen => 0x14
  | .notAborted => 0x15
  | .badRange => 0x16
  | .axisNotReferenced => 0x17
  | .axisUndefined => 0x18
  | .notTracking => 0x19
  | .notLocked => 0x1A
  | .envStale => 0x1B
  | .datumBusy => 0x1C
  | .notOwner => 0x1D
  | .noSlot => 0x1E
  | .conflict => 0x1F
  | .tableFull => 0x20
  | .duplicateIndex => 0x21
  | .overlap => 0x22
  | .notFound => 0x23
  | .retained => 0x24

/-- The commands of section 10.1. -/
inductive Command where
  | identify
  | readStatus
  | readEvents
  | setEventMask
  | setParam
  | getParam
  | channelEnable
  | channelDisable
  | channelRestart
  | testStart
  | testStop
  | datumArm
  | datumCancel
  | readAxis
  | captureNow
  | tableInsert
  | tableDelete
  | tableFlush
  | tableRead
  | scanOpen
  | scanClose
  | scanClear
  | readRecord
  | readException
  | restart
  deriving DecidableEq, Repr

/-- Code byte of a command (section 10.1). -/
def Command.code : Command → Byte
  | .identify => 0x01
  | .readStatus => 0x02
  | .readEvents => 0x03
  | .setEventMask => 0x04
  | .setParam => 0x05
  | .getParam => 0x06
  | .channelEnable => 0x10
  | .channelDisable => 0x11
  | .channelRestart => 0x12
  | .testStart => 0x14
  | .testStop => 0x15
  | .datumArm => 0x20
  | .datumCancel => 0x21
  | .readAxis => 0x22
  | .captureNow => 0x23
  | .tableInsert => 0x30
  | .tableDelete => 0x31
  | .tableFlush => 0x32
  | .tableRead => 0x33
  | .scanOpen => 0x40
  | .scanClose => 0x41
  | .scanClear => 0x42
  | .readRecord => 0x50
  | .readException => 0x51
  | .restart => 0x7F

/-- Argument bytes of a command (section 10.1). -/
def Command.arguments : Command → Nat
  | .setEventMask | .getParam => 2
  | .setParam => 6
  | .channelEnable | .channelDisable | .channelRestart | .testStart | .datumCancel | .readAxis | .tableFlush => 1
  | .datumArm => 13
  | .tableInsert => 15
  | .tableDelete | .tableRead => 3
  | .scanOpen => 20
  | _ => 0

/-- Every command of the command summary. -/
def allCommands : List Command :=
  [.identify, .readStatus, .readEvents, .setEventMask, .setParam, .getParam, .channelEnable, .channelDisable,
   .channelRestart, .testStart, .testStop, .datumArm, .datumCancel, .readAxis, .captureNow, .tableInsert, .tableDelete,
   .tableFlush, .tableRead, .scanOpen, .scanClose, .scanClear, .readRecord, .readException, .restart]

/-- Whether a command byte is in the command summary (R178). -/
def knownCode (b : Byte) : Bool := allCommands.any fun c => c.code == b

/-- Channel states in the order of section 1.2. -/
def ChannelState.code : ChannelState → Nat
  | .off => 0
  | .settling => 1
  | .tracking => 2
  | .lost => 3

/-- Loss causes in the order of section 1.2. -/
def LossCause.code : LossCause → Nat
  | .none => 0
  | .signalLow => 1
  | .clipped => 2
  | .overspeed => 3
  | .overrange => 4

/-- Sources in the order of section 1.2. -/
def Source.code : Source → Nat
  | .input => 0
  | .generator => 1

/-- Lock states as in the servo frame (R186). -/
def LockState.code : LockState → Nat
  | .unlocked => 0
  | .settling => 1
  | .locked => 2

/-- Tracker states in the order of section 2.2. -/
def TrackerState.code : TrackerState → Nat
  | .absent => 0
  | .following => 1
  | .frozen => 2

/-- Environment states as in the status block (R189). -/
def EnvState.code : EnvState → Nat
  | .fresh => 0
  | .stale => 1

/-- Update results as in the status block (R189). -/
def UpdateResult.code : UpdateResult → Nat
  | .none => 0
  | .pending => 1
  | .applied => 2
  | .clamped => 3
  | .held => 4
  | .ignored => 5
  | .malformed => 6

/-- Axis states as in the servo frame (R186). -/
def AxisState.code : AxisState → Nat
  | .undefined => 0
  | .unreferenced => 1
  | .referenced => 2
  | .broken => 3

/-- Slot states in the order of section 4.3. -/
def SlotState.code : SlotState → Nat
  | .idle => 0
  | .deferred => 1
  | .armed => 2

/-- Slot owner: 0 absent, 1 SERVO, 2 MEASUREMENT (R183). -/
def ownerCode : Option Owner → Nat
  | none => 0
  | some .servo => 1
  | some .measurement => 2

/-- Datum sources as in the DATUM ARM argument. -/
def DatumSource.code : DatumSource → Nat
  | .ref0 => 0
  | .ref1 => 1
  | .immediate => 2

/-- Slot outcomes (R183). -/
def DatumOutcome.code : DatumOutcome → Nat
  | .none => 0
  | .done => 1
  | .notTracking => 2
  | .timeout => 3
  | .axisUndefined => 4
  | .cancelled => 5

/-- Signs in the order of section 5.2. -/
def Sign.code : Sign → Nat
  | .positive => 0
  | .negative => 1
  | .zero => 2
  | .none => 3

/-- Scan states in the order of section 8.1. -/
def ScanState.code : ScanState → Nat
  | .idle => 0
  | .armed => 1
  | .active => 2
  | .aborted => 3

/-- Hold states in the order of section 8.5. -/
def HoldState.code : HoldState → Nat
  | .run => 0
  | .holdPending => 1
  | .holding => 2
  | .releasePending => 3

/-- Line inputs as in the SCAN OPEN argument and the record source. -/
def lineCode : LineInput → Nat
  | .line0 => 0
  | .line1 => 1

/-- Directions as in the SCAN OPEN argument. -/
def Direction.code : Direction → Nat
  | .forward => 0
  | .reverse => 1

/-- End causes as in the record summary (R190). -/
def EndCause.code : EndCause → Nat
  | .stopReached => 1
  | .closed => 2
  | .axisBroken => 3
  | .laserUnlock => 4

/-- Results of a servo request (R186). -/
def RequestResult.code : RequestResult → Nat
  | .none => 0
  | .accepted => 1
  | .deferred => 2
  | .datumBusy => 3
  | .notOwner => 4
  | .notTracking => 5
  | .axisUndefined => 6
  | .noSlot => 7

/-- Record kinds (R190). -/
def CaptureKind.kindCode : CaptureKind → Nat
  | .line _ _ => 0
  | .strobe _ => 1
  | .datum _ => 2
  | .scanEnd _ => 3

/-- Record sources (R190). -/
def CaptureKind.sourceCode : CaptureKind → Nat
  | .line .line0 _ => 0
  | .line .line1 _ => 1
  | .strobe .command => 2
  | .strobe .servo => 3
  | .datum .ref0 => 4
  | .datum .ref1 => 5
  | .datum .immediate => 6
  | .scanEnd _ => 7

/-- Line directions (R190). -/
def LineDirection.code : LineDirection → Nat
  | .forward => 0
  | .reverse => 1
  | .unknown => 2

/-- Match results (R190). -/
def MatchResult.code : MatchResult → Nat
  | .matched => 0
  | .double => 1
  | .stray => 2
  | .outOfOrder => 3

/-- Exception reasons (R190). -/
def Reason.code : Reason → Nat
  | .outsideScan => 1
  | .axisNotReferenced => 2
  | .noVelocity => 3
  | .fast => 4
  | .stray => 5
  | .double => 6
  | .outOfOrder => 7

end Sys2Proof.Machine
end

