-- ==== Sys2Proof/Machine/Position.lean ====
section
/-! DEFINITION. The Position Computer (chapter 3): the chain from channel counts to lengths, axis values and servo
values. It holds no state; each function takes what it uses. -/

namespace Sys2Proof.Machine

/-! ## The formulas -/

/-- Channel displacement in pm from a count, λ, K and N (R51). -/
def displacement (count lambda pathK n : Int) : Int :=
  roundDiv (count * lambda * 10 ^ 7) (1024 * pathK * (10 ^ 10 + n))

/-- Dead-path correction in pm from D, N and N_dat (R52, R53). -/
def deadPathTerm (deadPath n nDat : Int) : Int :=
  roundDiv (deadPath * (n - nDat) * 10 ^ 6) (10 ^ 10 + n)

/-- A length clamped to ±(2^47 − 1) pm (R55, R61). -/
def clampLength (v : Int) : Int := clampTo (-Config.lengthLimit) Config.lengthLimit v

/-- Distance travelled in `latency` ns at velocity `v` pm per gate (R61). -/
def latencyTerm (v latency : Int) (gateLength : Nat) (tNs : Int) : Int :=
  roundDiv (v * latency) (gateLength * tNs)

/-- The latency-compensated value before its clamp (R61). -/
def compensated (value v latency : Int) (gateLength : Nat) (tNs : Int) : Int :=
  value - latencyTerm v latency gateLength tNs

/-- `v` modulo 2^32, read as a signed 32-bit value (R63). -/
def wrap32 (v : Int) : Int := (v + 2 ^ 31) % 2 ^ 32 - 2 ^ 31

/-- The servo value: floor of A / U, wrapped to a signed 32-bit value (R63). -/
def servoValue (value unit : Int) : Int := wrap32 (value / unit)

/-! ## Evaluation on the last sample set -/

/-- Displacement of channel `c` on the last sample set, with the N in use (R51). -/
def channelDisplacement (s : State) (c : Fin 4) : Int :=
  displacement (s.channels.get c).count s.params.lambda (s.params.channel.get c).pathK s.refr.nInUse

/-- Dead-path correction of channel `c` in axis `j`: only in REFERENCED and BROKEN (R52). -/
def deadPathCorrection (s : State) (j c : Fin 4) : Int :=
  match (s.axes.get j).state with
  | .referenced | .broken =>
    deadPathTerm (s.params.channel.get c).deadPath s.refr.nInUse (s.axes.get j).nDat
  | .undefined | .unreferenced => 0

/-- Weighted sum over the four channels of a length per channel (R54). -/
def weightedSum (p : Params) (j : Fin 4) (length : Fin 4 → Int) : Int :=
  (p.weight.get j).a0 * length 0 + (p.weight.get j).a1 * length 1 + (p.weight.get j).a2 * length 2
    + (p.weight.get j).a3 * length 3

/-- Raw value R of axis `j` (R54); 0 for an UNDEFINED axis (R56). -/
def rawValue (s : State) (j : Fin 4) : Int :=
  if (s.axes.get j).state = .undefined then 0
  else roundDiv (weightedSum s.params j fun c => channelDisplacement s c - deadPathCorrection s j c) 65536

/-- R + offset of axis `j`, exact (R55); 0 for an UNDEFINED axis (R56). -/
def exactValue (s : State) (j : Fin 4) : Int :=
  if (s.axes.get j).state = .undefined then 0 else rawValue s j + (s.axes.get j).offset

/-- Axis value A of axis `j` (R55, R56). -/
def axisValue (s : State) (j : Fin 4) : Int := clampLength (exactValue s j)

/-- AXIS_CLAMP indication of axis `j` (R55). -/
def axisClamped (s : State) (j : Fin 4) : Bool := axisValue s j != exactValue s j

/-- Geometric sum of axis `j` (R58), which is also its datum raw value (R57). -/
def geometricSum (s : State) (j : Fin 4) : Int :=
  roundDiv (weightedSum s.params j fun c => channelDisplacement s c) 65536

end Sys2Proof.Machine
end

