-- ==== Sys2Proof/Machine/Ops.lean ====
section
/-! DEFINITION. The operations that several commands and events share: running an event outside reset, answering a
command, accepting a capture, handing a record to a ring, comparing the fill with the water marks, ending a scan,
breaking and un-referencing axes, and the life of a datum slot. -/

namespace Sys2Proof.Machine

/-! ## Events and commands -/

/-- An event reaches the part. While RESET_N is held low the part stays in its reset state and takes nothing. -/
def live (s : State) (f : State → State) : Host.Outcome State Fault Refusal :=
  if s.resetLow then .next s else .next (f s)

/-- What a command leaves: the state, the status and the response bytes. -/
structure Reply where
  state : State
  status : Status
  data : List Byte

/-- A command refused, or served without change: the state stays. -/
def Reply.keep (s : State) (st : Status) (data : List Byte := []) : Reply := { state := s, status := st, data := data }

/-- A command answered OK. -/
def Reply.ok (s : State) (data : List Byte := []) : Reply := { state := s, status := .ok, data := data }

/-- A response of `n` bytes of 0x00 (R179). -/
def zeros (n : Nat) : List Byte := List.replicate n 0

/-- The transaction in which command `c` has been taken and answered (R178, R179). -/
def Transaction.answered (c : Command) (st : Status) (data : List Byte) : Transaction :=
  { code := some c.code, arguments := c.arguments, taken := true, out := st.code :: data }

/-- The measurement link takes command `c` at the end of its last argument byte. The bytes reach the part only within a
transaction, and a transaction carries one command: outside one, or after its command, they are ignored (R178). -/
def takeCommand (c : Command) (body : State → Reply) (s : State) : Host.Outcome State Fault Refusal :=
  live s fun s =>
    match s.mp.transaction with
    | none => s
    | some t =>
      if t.taken then s
      else
        { (body s).state with
          mp := { (body s).state.mp with transaction := some (.answered c (body s).status (body s).data) } }

/-! ## Questions several rules ask -/

/-- A scan is open: ARMED or ACTIVE (section 8.1). -/
def State.scanIsOpen (s : State) : Bool := s.scan.state == .armed || s.scan.state == .active

/-- The descriptor of the open scan. -/
def State.openScan (s : State) : Option Descriptor := if s.scanIsOpen then s.scan.descriptor else none

/-- A scan whose axis is `j` is open (R75, R80). -/
def State.scanOpenOn (s : State) (j : Fin 4) : Bool := (s.openScan.map fun d => d.axis == j) == some true

/-- The effective lock state (R31). -/
def State.effectiveLock (s : State) : LockState := if s.params.lockOverride then .locked else s.lock.state

/-- Channel `c` is weighted in axis `j` (section 4.1). -/
def weighted (p : Params) (j c : Fin 4) : Bool := (p.weight.get j).get c != 0

/-- Every weighted channel of axis `j` is TRACKING in the last sample set. -/
def State.allTracking (s : State) (j : Fin 4) : Bool :=
  indices.all fun c => !weighted s.params j c || (s.channels.get c).state == .tracking

/-- Some weighted channel of axis `j` has source GENERATOR. -/
def State.onGenerator (s : State) (j : Fin 4) : Bool :=
  indices.any fun c => weighted s.params j c && (s.channels.get c).source == .generator

/-- The channel-hold indication of axis `j`; clear for an UNDEFINED axis (R73). -/
def State.channelHold (s : State) (j : Fin 4) : Bool :=
  (s.axes.get j).state != .undefined && !s.allTracking j

/-- SV_HOLD is asserted (R160). -/
def State.svHold (s : State) : Bool := s.hold.state == .holdPending || s.hold.state == .holding

/-- The latency of a line input (R62). -/
def lineLatency (p : Params) : LineInput → Int
  | .line0 => p.lineLatency0
  | .line1 => p.lineLatency1

/-- The selected edge of a line input (R103). -/
def lineEdge (p : Params) : LineInput → Edge
  | .line0 => p.lineEdge0
  | .line1 => p.lineEdge1

/-! ## Hold Controller -/

/-- The fill compared with the water marks, at a change of the fill and at a write of a mark (R161). -/
def holdCompare (s : State) : State :=
  match s.hold.state with
  | .run =>
    if s.params.highWater ≤ s.main.records.length then
      { s with hold := { state := .holdPending, age := 0, unseen := false } }
    else s
  | .holdPending =>
    if s.main.records.length ≤ s.params.lowWater then { s with hold := { s.hold with state := .run } } else s
  | .holding =>
    if s.main.records.length ≤ s.params.lowWater then { s with hold := { s.hold with state := .releasePending } } else s
  | .releasePending =>
    if s.params.highWater ≤ s.main.records.length then { s with hold := { s.hold with state := .holding } } else s

/-! ## Captures and records -/

/-- Axis `j` as a capture lists it (R110). -/
def latchAxis (s : State) (j : Fin 4) : LatchedAxis :=
  { axis := j, value := axisValue s j, clamped := axisClamped s j, epoch := (s.axes.get j).epoch,
    state := (s.axes.get j).state, generator := s.onGenerator j }

/-- The axes a capture lists: those the mask selects that are not UNDEFINED, and a forced one (R107, R110, R120). -/
def listedAxes (s : State) (forced : Option (Fin 4)) : List (Fin 4) :=
  indices.filter fun j =>
    (s.params.captureAxes.getLsbD j && (s.axes.get j).state != .undefined) || forced == some j

/-- The tracker channel is on the generator (R110). -/
def State.trackerOnGenerator (s : State) : Bool :=
  match s.params.trackerCh with
  | some c => (s.channels.get c).source == .generator
  | none => false

/-- What every capture latches of a channel (R26). -/
def Channel.context (ch : Channel) : ChannelContext := { state := ch.state, source := ch.source }

/-- What every capture latches of an axis (R73). -/
def Axis.context (a : Axis) : AxisContext :=
  { state := a.state, epoch := a.epoch, offset := a.offset, nDat := a.nDat }

/-- The latch of the last sample set and its context (R26, R73, R110). `scanId` is the id the capture carries. -/
def latchWith (s : State) (forced : Option (Fin 4)) (scanId : Nat) : Latch :=
  { axes := (listedAxes s forced).map (latchAxis s)
    channels := s.channels.mapIdx fun _ ch => ch.context
    context := s.axes.mapIdx fun _ a => a.context
    n := s.refr.nInUse
    laserNotLocked := s.effectiveLock != .locked
    lockForced := s.params.lockOverride
    envStale := s.refr.env == .stale
    trackerFrozen := s.refr.tracker == .frozen
    test := (listedAxes s forced).any s.onGenerator || s.trackerOnGenerator
    scanId := scanId }

/-- The id of the open scan, or 0 (R110). -/
def State.openScanId (s : State) : Nat :=
  match s.openScan with
  | some d => d.id
  | none => 0

/-- The latch made now, under the open scan's id. -/
def latchNow (s : State) (forced : Option (Fin 4)) : Latch := latchWith s forced s.openScanId

/-- A slot is FREE (R108). -/
def State.slotFree (s : State) : Bool := decide (s.capture.inFlight.length < Config.captureSlots)

/-- A capture is accepted: it spends the next sequence number and takes a FREE slot, awaiting the gate in progress;
with no slot free it is lost, charged to the main ring (R108, R111). -/
def acceptCapture (kind : CaptureKind) (latch : Latch) (s : State) : State :=
  if s.slotFree then
    { s with
      capture :=
        { nextSeq := s.capture.nextSeq + 1
          inFlight := s.capture.inFlight ++
            [{ seq := s.capture.nextSeq, kind := kind, gate := s.motion.gateNumber, latch := latch }] } }
  else
    raise .recordsLost
      { s with
        capture := { s.capture with nextSeq := s.capture.nextSeq + 1 }
        main := { s.main with lost := satSucc 65535 s.main.lost } }

/-- A sequence number is held by a record of either ring (R167). -/
def State.seqHeld (s : State) (seq : Word32) : Bool :=
  s.main.records.any (fun r => r.seq == seq) || s.exc.records.any (fun r => r.seq == seq)

/-- A ring after the commit of a record: lost_before filled in, lost count 0, record at the tail (R167). -/
def Ring.commit (ring : Ring) (r : Record) : Ring :=
  { ring with records := ring.records ++ [{ r with lostBefore := ring.lost }], lost := 0 }

/-- A ring after the drop of a record (R168). -/
def Ring.drop (ring : Ring) : Ring := { ring with lost := satSucc 65535 ring.lost }

/-- A record handed to the main ring: committed, with the fill compared with the water marks, or dropped (R167,
R168). -/
def handToMain (r : Record) (s : State) : State :=
  if s.main.records.length < Config.mainCapacity ∧ s.seqHeld r.seq = false then
    holdCompare (raise .mainReady { s with main := s.main.commit r })
  else raise .recordsLost { s with main := s.main.drop }

/-- A record handed to the exception ring (R167, R168). -/
def handToException (r : Record) (s : State) : State :=
  if s.exc.records.length < Config.exceptionCapacity ∧ s.seqHeld r.seq = false then
    raise .excReady { s with exc := s.exc.commit r }
  else raise .recordsLost { s with exc := s.exc.drop }

/-! ## The end of a scan -/

/-- A nominal lies in the scan range, both ends included (R143). -/
def inScanRange (d : Descriptor) (nominal : Int) : Bool :=
  match d.direction with
  | .forward => decide (d.start ≤ nominal ∧ nominal ≤ d.stop)
  | .reverse => decide (d.stop ≤ nominal ∧ nominal ≤ d.start)

/-- The missed count: entries in the scan range whose hit count is 0 (R143). -/
def missedCount (d : Descriptor) (table : List Entry) : Nat :=
  table.countP fun e => inScanRange d e.nominal && e.hits == 0

/-- A LINE capture marked inside becomes inside and scan-ended (R113). -/
def Capture.endScan (c : Capture) : Capture :=
  match c.kind with
  | .line input (.inside j) => { c with kind := .line input (.scanEnded j) }
  | _ => c

/-- A slot that becomes ARMED with age 0, when DEFERRED (R80). -/
def DatumSlot.rearm (d : DatumSlot) : DatumSlot :=
  if d.state = .deferred then { d with state := .armed, age := 0 } else d

/-- A slot that becomes DEFERRED with age 0, when ARMED (R80). -/
def DatumSlot.defer (d : DatumSlot) : DatumSlot :=
  if d.state = .armed then { d with state := .deferred, age := 0 } else d

/-- The state a scan goes to at its end (R151). -/
def EndCause.state : EndCause → ScanState
  | .stopReached | .closed => .idle
  | .axisBroken | .laserUnlock => .aborted

/-- The summary handed with the scan-end request (R156). -/
def scanSummary (sc : Scan) (missed : Nat) (cause : EndCause) : Summary :=
  { matched := sc.matched, stray := sc.stray, double := sc.double, outOfOrder := sc.outOfOrder, missed := missed,
    cause := cause }

/-- Steps 1 to 4 of the end of a scan with descriptor `d`: missed count, end cause and state, rearmed slot, scan-end
notice (R151). -/
def closeScan (d : Descriptor) (cause : EndCause) (s : State) : State :=
  { s with
    scan :=
      { s.scan with
        state := cause.state
        endCause := some cause
        missed := some (missedCount d s.matcher.table) }
    slots := s.slots.set d.axis (s.slots.get d.axis).rearm
    capture := { s.capture with inFlight := s.capture.inFlight.map Capture.endScan } }

/-- The open scan ends with a cause: its six steps in their order (R151). Without an open scan nothing happens. -/
def endScan (cause : EndCause) (s : State) : State :=
  match s.openScan with
  | none => s
  | some d =>
    let summary := scanSummary s.scan (missedCount d s.matcher.table) cause
    let closed := closeScan d cause s
    raise .scanEnded (acceptCapture (.scanEnd summary) (latchWith closed (some d.axis) d.id) closed)

/-- The Scan Controller takes a break notice for the axes in `broken` (R153). -/
def breakNotice (broken : Fin 4 → Bool) (s : State) : State :=
  match s.openScan with
  | none => s
  | some d => if broken d.axis then endScan .axisBroken s else s

/-- The Scan Controller takes an unlock notice (R154). -/
def unlockNotice (s : State) : State := endScan .laserUnlock s

/-! ## Breaks and un-referencing -/

/-- Whether axis `j` is broken by the change of the channels from `s.channels` to `after`: it is REFERENCED, and the
break number of a weighted channel has moved and differs from the datum break number (R70). -/
def axisBreaks (s : State) (after : Four Channel) (j : Fin 4) : Bool :=
  (s.axes.get j).state == .referenced && indices.any fun c =>
    weighted s.params j c && (after.get c).breaks != (s.channels.get c).breaks
      && (after.get c).breaks != (s.axes.get j).datumBreaks.get c

/-- The channels move to `after` in one instant. Each REFERENCED axis that a break concerns becomes BROKEN in the same
instant, AXIS_BROKEN is raised, and the Scan Controller takes the break notice (R20, R70, R153). -/
def setChannels (after : Four Channel) (s : State) : State :=
  let broken := axisBreaks s after
  let moved :=
    { s with
      channels := after
      axes := s.axes.mapIdx fun j a => if broken j then { a with state := .broken } else a }
  breakNotice broken (raiseIf (indices.any broken) .axisBroken moved)

/-- The previous geometric sum of the axes in `which` becomes absent (R95). -/
def forgetSums (which : Fin 4 → Bool) (m : Motion) : Motion :=
  { m with axes := m.axes.mapIdx fun j a => if which j then { a with prevSum := none } else a }

/-- The axes in `which` become UNREFERENCED, UNDEFINED ones apart (R69). -/
def unreference (which : Fin 4 → Bool) (axes : Four Axis) : Four Axis :=
  axes.mapIdx fun j a => if which j && a.state != .undefined then { a with state := .unreferenced } else a

/-! ## Datum slots -/

/-- How a datum request was decided (R75). -/
inductive RequestDecision where
  | armed
  | deferred
  | axisUndefined
  | notTracking
  | datumBusy
  deriving DecidableEq, Repr

/-- The decision on a datum request for axis `j` from link `owner` (R75). -/
def decideRequest (s : State) (j : Fin 4) (owner : Owner) : RequestDecision :=
  if (s.axes.get j).state = .undefined then .axisUndefined
  else if !s.allTracking j then .notTracking
  else if (s.slots.get j).state != .idle && (s.slots.get j).owner != some owner then .datumBusy
  else if s.scanOpenOn j then .deferred
  else .armed

/-- A slot holding a new request with age 0; its last outcome stays (R75, R76). -/
def DatumSlot.hold (d : DatumSlot) (state : SlotState) (owner : Owner) (source : DatumSource) (edge : Edge)
    (preset : Int) (timeout : Nat) : DatumSlot :=
  { d with
    state := state, owner := some owner, source := source, edge := edge, preset := preset, timeout := timeout,
    age := 0 }

/-- A datum request is taken into its slot, or refused without change (R75, R76). -/
def requestDatum (s : State) (j : Fin 4) (owner : Owner) (source : DatumSource) (edge : Edge) (preset : Int)
    (timeout : Nat) : State × RequestDecision :=
  let decision := decideRequest s j owner
  match decision with
  | .armed =>
    ({ s with slots := s.slots.set j ((s.slots.get j).hold .armed owner source edge preset timeout) }, decision)
  | .deferred =>
    ({ s with slots := s.slots.set j ((s.slots.get j).hold .deferred owner source edge preset timeout) }, decision)
  | _ => (s, decision)

/-- A slot whose request has ended (R79, R83 to R85). Its source, edge, preset and timeout stay (R88). DESIGN CHOICE (log
entry 16): the manual does not say what its age then is; the model keeps the age as it stood when the request ended. -/
def DatumSlot.finish (d : DatumSlot) (outcome : DatumOutcome) : DatumSlot :=
  { d with state := .idle, owner := none, outcome := outcome }

/-- A cancel by link `owner`: taken (with or without effect), or refused because the other link owns the slot (R79). -/
def cancelDatum (s : State) (j : Fin 4) (owner : Owner) : State × Bool :=
  if (s.slots.get j).state = .idle then (s, true)
  else if (s.slots.get j).owner = some owner then
    ({ s with slots := s.slots.set j ((s.slots.get j).finish .cancelled) }, true)
  else (s, false)

/-- The next epoch in the cycle 1, 2, ..., 65535, 1 (R72). -/
def nextEpoch (e : Nat) : Nat := if e = 65535 then 1 else e + 1

/-- Axis `j` after a datum with the given preset (R57, R83). -/
def referenceAxis (s : State) (j : Fin 4) (preset : Int) : Axis :=
  { state := .referenced
    offset := preset - geometricSum s j
    nDat := s.refr.nInUse
    epoch := nextEpoch (s.axes.get j).epoch
    datumBreaks := .ofFn fun c => (s.channels.get c).breaks }

/-- The DATUM captures of the axes listed, in that order (R86). -/
def datumCaptures (s : State) : List (Fin 4) → State
  | [] => s
  | j :: rest =>
    datumCaptures (acceptCapture (.datum (s.slots.get j).source) (latchNow s (some j)) s) rest

/-- The datums of the slots in `chosen` are applied in one instant on the last sample set: those with every weighted
channel TRACKING take effect, the others fail (R83, R84); then the DATUM captures are requested in ascending order of
axis number (R86). DESIGN CHOICE (log entry 4): every one of these captures latches the axes as they stand after all the
datums of the event. -/
def applyDatums (chosen : Fin 4 → Bool) (s : State) : State :=
  let done := fun j => chosen j && s.allTracking j
  let failed := fun j => chosen j && !s.allTracking j
  let moved :=
    { s with
      axes := s.axes.mapIdx fun j a => if done j then referenceAxis s j (s.slots.get j).preset else a
      slots := s.slots.mapIdx fun j d =>
        if done j then d.finish .done else if failed j then d.finish .notTracking else d }
  datumCaptures
    (raiseIf (indices.any failed) .datumFailed (raiseIf (indices.any done) .datumDone moved))
    (indices.filter done)

end Sys2Proof.Machine
end

