-- ==== Sys2Proof/Machine/LaserAndAir.lean ====
section
/-! DEFINITION. The Laser Lock Monitor and the Refractivity Unit (chapter 2). -/

namespace Sys2Proof.Machine

/-! ## Laser Lock Monitor -/

/-- The lock settle length (R29). -/
def lockSettleLength (p : Params) : Nat := 2 ^ (16 + p.lockSettle)

/-- The monitor after an arrival with LASER_LOCK at the given level (R28, R29, R30). -/
def LockMonitor.arrive (length : Nat) (high : Bool) (m : LockMonitor) : LockMonitor :=
  if high then
    match m.state with
    | .unlocked => { state := .settling, settle := 0 }
    | .settling =>
      if length ≤ m.settle + 1 then { state := .locked, settle := 0 } else { m with settle := m.settle + 1 }
    | .locked => m
  else { state := .unlocked, settle := 0 }

/-- The monitor takes an arrival: LASER_UNLOCKED on a true loss of lock from LOCKED, and an unlock notice when the
effective state leaves LOCKED (R30, R31, R154). -/
def lockArrive (high : Bool) (s : State) : State :=
  let after := { s with lock := s.lock.arrive (lockSettleLength s.params) high }
  let lostLock := s.lock.state == .locked && after.lock.state != .locked
  let flagged := raiseIf lostLock .laserUnlocked after
  if s.effectiveLock = .locked ∧ after.effectiveLock ≠ .locked then unlockNotice flagged else flagged

/-! ## Refractivity: values -/

/-- Refractivity clamped to 0..4,000,000 (R34). -/
def clampN (v : Int) : Int := clampTo 0 Config.refractivityLimit v

/-- The tracker term in ru (R34). -/
def trackerTerm (drift lambda pathK length : Int) : Int :=
  roundDiv (drift * lambda * 10) (1024 * pathK * length)

/-- Count of the tracker channel of the configuration in force; 0 without one. -/
def trackerCount (s : State) : Int :=
  match s.refr.config.tracker with
  | some c => (s.channels.get c).count
  | none => 0

/-- The tracker channel of the configuration in force is TRACKING. -/
def trackerTracking (s : State) : Bool :=
  match s.refr.config.tracker with
  | some c => (s.channels.get c).state == .tracking
  | none => false

/-- The value of N that the unit forms from its state as it stands, `count` being the tracker's count (R34). -/
def formN (count : Int) (r : Refractivity) : Int :=
  if r.config.vacuum then 0
  else
    match r.tracker with
    | .following =>
      clampN (r.nBase + trackerTerm (count - r.tBase) r.config.lambda (r.config.pathK.getD 1) r.config.length)
    | .absent | .frozen => clampN r.nBase

/-! ## Refractivity: the steps of a gate end (R35) -/

/-- The tracker state with no tracker followed: FROZEN when a channel is designated, ABSENT otherwise. -/
def restingTracker (c : RefrConfig) : TrackerState := if c.tracker.isSome then .frozen else .absent

/-- Step 1: the configuration is compared and adopted (R36). -/
def Refractivity.adopt (c : RefrConfig) (r : Refractivity) : Refractivity :=
  let base := if r.tracker = .following then r.nInUse else r.nBase
  if r.config.vacuum then { r with config := c, tracker := restingTracker c }
  else if c.vacuum then
    { r with
      config := c, tracker := restingTracker c, nBase := base, pending := none, held := none
      result := if r.pending.isSome || r.held.isSome then .ignored else r.result }
  else if r.tracker = .following then
    if c = r.config then r else { r with config := c, nBase := base, tracker := restingTracker c }
  else if c.tracker = r.config.tracker then { r with config := c }
  else { r with config := c, tracker := restingTracker c }

/-- Step 2: the tracker freezes or re-follows (R37). -/
def Refractivity.moveTracker (tracking : Bool) (count : Int) (r : Refractivity) : Refractivity :=
  if r.config.vacuum then r
  else
    match r.tracker with
    | .following => if tracking then r else { r with tracker := .frozen, nBase := r.nInUse }
    | .frozen => if tracking then { r with tracker := .following, tBase := count } else r
    | .absent => r

/-- Step 3: a held update is promoted, or discarded for a newer pending one (R40). -/
def Refractivity.promote (scanOpen : Bool) (r : Refractivity) : Refractivity :=
  if scanOpen then r
  else
    match r.held with
    | none => r
    | some h => if r.pending.isSome then { r with held := none } else { r with pending := some h, held := none }

/-- A pending update waits for the scan's end: a scan is open and the step exceeds ENV_STEP_MAX (R39). -/
def mustHold (scanOpen : Bool) (stepMax count update : Int) (r : Refractivity) : Bool :=
  scanOpen && decide (stepMax < update - formN count r ∨ update - formN count r < -stepMax)

/-- Step 4: a pending update is applied or held (R39). -/
def Refractivity.settleUpdate (scanOpen : Bool) (stepMax count : Int) (r : Refractivity) : Refractivity :=
  if r.config.vacuum then r
  else
    match r.pending with
    | none => r
    | some update =>
      if mustHold scanOpen stepMax count update r then
        { r with held := some update, pending := none, result := .held }
      else
        { r with
          nBase := update
          tBase := if r.tracker = .following then count else r.tBase
          held := none, pending := none, age := 0, env := .fresh, result := .applied }

/-- An update is applied at step 4 (R39, R41). -/
def appliesUpdate (scanOpen : Bool) (stepMax count : Int) (r : Refractivity) : Bool :=
  match r.pending with
  | none => false
  | some update => !r.config.vacuum && !mustHold scanOpen stepMax count update r

/-- The limit of the environment age in sample sets (R41). -/
def staleLimit (p : Params) : Nat := p.envStaleLimit * 65536

/-- The environment becomes STALE when this arrival is counted in its age (R41). -/
def agesToStale (limit : Nat) (r : Refractivity) : Bool :=
  r.env == .fresh && !r.vacuumInForce && decide (limit ≤ r.age + 1)

/-- The environment age after this arrival is counted (R41). -/
def Refractivity.countAge (limit : Nat) (r : Refractivity) : Refractivity :=
  if r.env = .fresh ∧ r.vacuumInForce = false then
    if limit ≤ r.age + 1 then { r with age := r.age + 1, env := .stale } else { r with age := r.age + 1 }
  else r

/-- The unit counts an arrival in the environment age (R41). -/
def ageEnvironment (s : State) : State :=
  raiseIf (agesToStale (staleLimit s.params) s.refr) .envStale
    { s with refr := s.refr.countAge (staleLimit s.params) }

/-- Steps 1 to 3 of a gate end (R35). -/
def refrConfigured (s : State) : Refractivity :=
  let adopted := s.refr.adopt s.params.refrConfig
  let seen := { s with refr := adopted }
  (adopted.moveTracker (trackerTracking seen) (trackerCount seen)).promote s.scanIsOpen

/-- The Refractivity Unit takes a gate end: its five steps in their order (R35). -/
def takeGateEndRefr (s : State) : State :=
  if s.due.refractivity then
    let before := refrConfigured s
    let count := trackerCount { s with refr := before }
    let settled := before.settleUpdate s.scanIsOpen s.params.envStepMax count
    let formed := { settled with nFormed := some (formN count settled) }
    let t := { s with refr := formed, due := { s.due with refractivity := false } }
    if appliesUpdate s.scanIsOpen s.params.envStepMax count before then t else ageEnvironment t
  else s

/-- An arrival brings the value formed at the last gate end into use, and vacuum mode into or out of force (R34, R41,
R42). -/
def Refractivity.arrive (r : Refractivity) : Refractivity :=
  let used := { r with nInUse := r.nFormed.getD r.nInUse, nFormed := none, vacuumInForce := r.config.vacuum }
  if r.config.vacuum = r.vacuumInForce then used
  else if r.config.vacuum then { used with env := .fresh, age := 0 }
  else { used with env := .stale }

/-- The Refractivity Unit's part of an arrival before the channels take it. Leaving vacuum mode raises ENV_STALE
(R41). -/
def refrArrive (s : State) : State :=
  raiseIf (s.refr.vacuumInForce && !s.refr.config.vacuum) .envStale { s with refr := s.refr.arrive }

/-! ## Environment updates (R38) -/

/-- A well-formed update of N_abs is taken (R38). -/
def Refractivity.update (nAbs : Nat) (r : Refractivity) : Refractivity :=
  if r.vacuumInForce then { r with result := .ignored }
  else if Config.refractivityLimit < nAbs then
    { r with pending := some Config.refractivityLimit, result := .clamped }
  else { r with pending := some nAbs, result := .pending }

/-- A malformed update is taken (R38). -/
def Refractivity.malformed (r : Refractivity) : Refractivity :=
  if r.vacuumInForce then { r with result := .ignored } else { r with result := .malformed }

/-! ## The rows of a gate end -/

/-- CONFIGURATION_ADOPTED (R36): the Refractivity Unit takes the gate end. -/
def execConfigurationAdopted (s : State) : Host.Outcome State Fault Refusal := live s takeGateEndRefr

/-- HELD_UPDATE_PROMOTED (R40): the Refractivity Unit takes the gate end. -/
def execHeldUpdatePromoted (s : State) : Host.Outcome State Fault Refusal := live s takeGateEndRefr

/-- ENV_UPDATE_APPLIED (R39): the Refractivity Unit takes the gate end. -/
def execEnvUpdateApplied (s : State) : Host.Outcome State Fault Refusal := live s takeGateEndRefr

end Sys2Proof.Machine
end

