-- ==== Sys2Proof/Machine/Environment.lean ====
section
/-! DEFINITION. The environment link (section 10.3). -/

namespace Sys2Proof.Machine

/-- The part's address on the environment link (R188). -/
def linkAddress (addrPin : Bool) : BitVec 7 := if addrPin then 0x4F else 0x4E

/-- How a write is classified at its end (R188). -/
inductive WriteClass where
  | pointerSet
  | update (nAbs : Nat)
  | malformed
  deriving DecidableEq, Repr

/-- An unsigned value of bytes, most significant first. -/
def unsignedOf (bytes : List Byte) : Nat := bytes.foldl (fun n b => 256 * n + b.toNat) 0

/-- The classification of the pointer byte and data bytes of a write (R188). -/
def classifyWrite (bytes : List Byte) : WriteClass :=
  match bytes with
  | [] => .malformed
  | pointer :: data =>
    if pointer = 0x08 ∧ data = [] then .pointerSet
    else if pointer = 0x00 ∧ data.length = 4 then .update (unsignedOf data)
    else .malformed

/-- The write's effect on the Refractivity Unit (R38, R188). -/
def applyWrite (w : WriteClass) (r : Refractivity) : Refractivity :=
  match w with
  | .pointerSet => r
  | .update nAbs => r.update nAbs
  | .malformed => r.malformed

/-- A write in progress ends (R188). -/
def endWrite (s : State) : State :=
  match s.env.message with
  | none => s
  | some bytes => { s with refr := applyWrite (classifyWrite bytes) s.refr, env := { s.env with message := none } }

/-- The write in progress ends where its bytes are of the kind in question; a row does not concern a write of another
kind. -/
def endWriteIf (kind : WriteClass → Bool) (s : State) : State :=
  if (s.env.message.map fun bytes => kind (classifyWrite bytes)) = some true then endWrite s else s

/-- A write class is a well-formed update. -/
def WriteClass.isUpdate : WriteClass → Bool
  | .update _ => true
  | .pointerSet | .malformed => false

/-- ENV_UPDATE (R38): a well-formed write ends. -/
def execEnvUpdate (s : State) : Host.Outcome State Fault Refusal := live s (endWriteIf WriteClass.isUpdate)

/-- MALFORMED_UPDATE (R38): a malformed write ends. -/
def execMalformedUpdate (s : State) : Host.Outcome State Fault Refusal :=
  live s (endWriteIf fun w => w == .malformed)

/-- POINTER_SET (R188): a write of pointer 0x08 alone ends. -/
def execPointerSet (s : State) : Host.Outcome State Fault Refusal := live s (endWriteIf fun w => w == .pointerSet)

/-- A START ends a write in progress. At the part's own address the transaction is taken; at another address the part
ignores it and acknowledges nothing (R188). -/
def takeStart (address : BitVec 7) (addrPin : Bool) (taken : State → State) (s : State) : State :=
  let t := endWrite s
  if address = linkAddress addrPin then taken t else { t with env := { t.env with acknowledged := 0 } }

/-- A write addressed to the part: its pointer and data bytes are collected, and the address and every byte written are
acknowledged (R188). -/
def beginWrite (bytes : List Byte) (s : State) : State :=
  { s with env := { s.env with message := some bytes, acknowledged := 1 + bytes.length } }

/-- ENV_WRITE_BEGIN (R188). -/
def execEnvWriteBegin (address : BitVec 7) (addrPin : Bool) (bytes : List Byte) (s : State) :
    Host.Outcome State Fault Refusal :=
  live s (takeStart address addrPin (beginWrite bytes))

/-- The status block (R189). -/
def statusBlock (r : Refractivity) : List Byte :=
  beNat 1 r.result.code ++ beNat 1 r.env.code ++ be 4 r.nInUse

/-- A read addressed to the part: the status block is taken as the address is acknowledged; the part acknowledges no
byte that it sends itself (R188, R189). -/
def beginRead (s : State) : State := { s with env := { s.env with out := statusBlock s.refr, acknowledged := 1 } }

/-- STATUS_BLOCK_READ (R189). -/
def execStatusBlockRead (address : BitVec 7) (addrPin : Bool) (s : State) : Host.Outcome State Fault Refusal :=
  live s (takeStart address addrPin beginRead)

/-- Byte `k` of the read last addressed to the part: the status block as taken, and 0x00 after its byte 5 (R189). -/
def State.envRead (s : State) (k : Nat) : Byte := s.env.out.getD k 0x00

/-- The part pulls ENV_SDA low to acknowledge byte `k` of the transaction that the last START began, the address being
byte 0 and the bytes written those from 1 on (R188). -/
def State.envAck (s : State) (k : Nat) : Bool := decide (k < s.env.acknowledged)

end Sys2Proof.Machine
end

