-- ==== Sys2Proof/Machine/Parameters.lean ====
section
/-! DEFINITION. SET PARAM and GET PARAM (R181), with what a taken write does at once beyond storing its value. -/

namespace Sys2Proof.Machine

/-! ## What a changed parameter does at once -/

/-- A weight of axis `j` has changed in the store: its state, its previous geometric sum, and an ARMED slot of an axis
that becomes UNDEFINED (R68, R95). -/
def weightChanged (j : Fin 4) (s : State) : State :=
  let undefined := s.params.allZero j
  let ends := undefined && (s.slots.get j).state == .armed
  raiseIf ends .datumFailed
    { s with
      axes := s.axes.set j { s.axes.get j with state := if undefined then .undefined else .unreferenced }
      motion := forgetSums (fun k => k == j) s.motion
      slots := if ends then s.slots.set j ((s.slots.get j).finish .axisUndefined) else s.slots }

/-- λ has changed: every defined axis becomes UNREFERENCED, every previous sum absent (R69, R95). -/
def lambdaChanged (s : State) : State :=
  { s with axes := unreference (fun _ => true) s.axes, motion := forgetSums (fun _ => true) s.motion }

/-- K of channel `c` has changed (R69, R95). -/
def pathKChanged (c : Fin 4) (s : State) : State :=
  { s with
    axes := unreference (fun j => weighted s.params j c) s.axes
    motion := forgetSums (fun j => weighted s.params j c) s.motion }

/-- D of channel `c` has changed: the previous sums stay (R69, R95). -/
def deadPathChanged (c : Fin 4) (s : State) : State :=
  { s with axes := unreference (fun j => weighted s.params j c) s.axes }

/-- The store replaced, with what the change does at once. A write that stores the value already held is not a change
(R50, R67); the water marks are compared at every write (R163). -/
def applyStore (q : Param) (params : Params) (s : State) : State :=
  let t := { s with params := params }
  let changed := getParam params q != getParam s.params q
  match q with
  | .weight j _ => if changed then weightChanged j t else t
  | .lambda => if changed then lambdaChanged t else t
  | .pathK c => if changed then pathKChanged c t else t
  | .deadPath c => if changed then deadPathChanged c t else t
  | .lockOverride => if s.effectiveLock = .locked ∧ t.effectiveLock ≠ .locked then unlockNotice t else t
  | .highWater | .lowWater => holdCompare t
  | _ => t

/-! ## The tests of a write (R181) -/

/-- Tracker and weight designations would disagree (R44, R67). -/
def paramConflict (p : Params) (q : Param) (v : Int) : Bool :=
  match q with
  | .weight _ c => clampParam q v != 0 && p.trackerCh == some c
  | .trackerCh =>
    match memberOfValue v with
    | some c => indices.any fun j => weighted p j c
    | none => false
  | _ => false

/-- The 4 response bytes of SET PARAM and GET PARAM: the value stored (R181). -/
def paramBytes (p : Params) (q : Param) : List Byte := be 4 (getParam p q)

/-- A write of parameter `q`, its tests in the order of R181. -/
def writeParam (q : Param) (value : BitVec 32) (s : State) : Reply :=
  let v := paramField q value
  if validCode q v = false then .keep s .badArgument (paramBytes s.params q)
  else if entersArithmetic q && s.scanIsOpen then .keep s .scanOpen (paramBytes s.params q)
  else if paramConflict s.params q v then .keep s .conflict (paramBytes s.params q)
  else
    let stored := storeParam s.params q v
    { state := applyStore q stored.1 s
      status := if stored.2 then .clamped else .ok
      data := paramBytes stored.1 q }

/-! ## The rows -/

/-- SET PARAM (R181), whatever the parameter its number names. -/
def execSetParam (number : BitVec 16) (value : BitVec 32) (s : State) : Host.Outcome State Fault Refusal :=
  takeCommand .setParam
    (fun s =>
      match paramOfNumber number.toNat with
      | none => .keep s .badArgument (zeros 4)
      | some q => writeParam q value s) s

/-- SET PARAM of a weight (R67, R68). -/
def execSetParamWeight (axis channel : BitVec 2) (value : BitVec 32) (s : State) : Host.Outcome State Fault Refusal :=
  takeCommand .setParam (writeParam (.weight (indexOf axis) (indexOf channel)) value) s

/-- SET PARAM of LAMBDA (R50, R69). -/
def execSetParamLambda (value : BitVec 32) (s : State) : Host.Outcome State Fault Refusal :=
  takeCommand .setParam (writeParam .lambda value) s

/-- SET PARAM of a PATH_K (R50, R69). -/
def execSetParamPathK (channel : BitVec 2) (value : BitVec 32) (s : State) : Host.Outcome State Fault Refusal :=
  takeCommand .setParam (writeParam (.pathK (indexOf channel)) value) s

/-- SET PARAM of a DEAD_PATH (R50, R69). -/
def execSetParamDeadPath (channel : BitVec 2) (value : BitVec 32) (s : State) : Host.Outcome State Fault Refusal :=
  takeCommand .setParam (writeParam (.deadPath (indexOf channel)) value) s

/-- SET PARAM of TRACKER_CH (R44). -/
def execSetParamTrackerCh (value : BitVec 32) (s : State) : Host.Outcome State Fault Refusal :=
  takeCommand .setParam (writeParam .trackerCh value) s

/-- SET PARAM of LOCK_OVERRIDE (R31). -/
def execSetParamLockOverride (value : BitVec 32) (s : State) : Host.Outcome State Fault Refusal :=
  takeCommand .setParam (writeParam .lockOverride value) s

/-- SET PARAM of an AMP_MIN (R6). -/
def execSetParamAmpMin (channel : BitVec 2) (value : BitVec 32) (s : State) : Host.Outcome State Fault Refusal :=
  takeCommand .setParam (writeParam (.ampMin (indexOf channel)) value) s

/-- SET PARAM of an AMP_MAX (R6). -/
def execSetParamAmpMax (channel : BitVec 2) (value : BitVec 32) (s : State) : Host.Outcome State Fault Refusal :=
  takeCommand .setParam (writeParam (.ampMax (indexOf channel)) value) s

/-- SET PARAM of HIGH_WATER (R163). -/
def execSetParamHighWater (value : BitVec 32) (s : State) : Host.Outcome State Fault Refusal :=
  takeCommand .setParam (writeParam .highWater value) s

/-- SET PARAM of LOW_WATER (R163). -/
def execSetParamLowWater (value : BitVec 32) (s : State) : Host.Outcome State Fault Refusal :=
  takeCommand .setParam (writeParam .lowWater value) s

/-- SET PARAM of a SERVO_PRESET_H (R182). -/
def execSetParamServoPresetH (axis : BitVec 2) (value : BitVec 32) (s : State) : Host.Outcome State Fault Refusal :=
  takeCommand .setParam (writeParam (.servoPresetH (indexOf axis)) value) s

/-- SET PARAM of a SERVO_PRESET_L (R182). -/
def execSetParamServoPresetL (axis : BitVec 2) (value : BitVec 32) (s : State) : Host.Outcome State Fault Refusal :=
  takeCommand .setParam (writeParam (.servoPresetL (indexOf axis)) value) s

/-- GET PARAM (R181). -/
def execGetParam (number : BitVec 16) (s : State) : Host.Outcome State Fault Refusal :=
  takeCommand .getParam
    (fun s =>
      match paramOfNumber number.toNat with
      | none => .keep s .badArgument (zeros 4)
      | some q => .keep s .ok (paramBytes s.params q)) s

end Sys2Proof.Machine
end

