-- ==== Sys2Proof/Machine/Matching.lean ====
section
/-! DEFINITION. The graduation table and the Graduation Matcher (chapter 7): the table commands and the matching of a
line. -/

namespace Sys2Proof.Machine

/-! ## Entries and windows -/

/-- The closed window of an entry contains `x` (R137). -/
def Entry.contains (e : Entry) (x : Int) : Bool :=
  decide (e.nominal - e.halfWindow ≤ x ∧ x ≤ e.nominal + e.halfWindow)

/-- Two closed windows meet (R128). -/
def Entry.meets (a b : Entry) : Bool :=
  decide (a.nominal - a.halfWindow ≤ b.nominal + b.halfWindow ∧ b.nominal - b.halfWindow ≤ a.nominal + a.halfWindow)

/-- An entry with its scan results cleared (R133). -/
def Entry.clear (e : Entry) : Entry := { e with hits := 0, firstHit := none }

/-- The first entry that satisfies `p`, with its ordinal position counted from `start`. -/
def findFrom (p : Entry → Bool) (start : Nat) : List Entry → Option (Nat × Entry)
  | [] => none
  | e :: rest => if p e then some (start, e) else findFrom p (start + 1) rest

/-- The first entry that satisfies `p`, with its ordinal position. -/
def findEntry (p : Entry → Bool) (table : List Entry) : Option (Nat × Entry) := findFrom p 0 table

/-- A table with an entry placed by its nominal (R128). -/
def insertEntry (e : Entry) : List Entry → List Entry
  | [] => [e]
  | x :: rest => if e.nominal < x.nominal then e :: x :: rest else x :: insertEntry e rest

/-- The ordinal position of a nominal: the number of entries below it. -/
def positionOf (nominal : Int) (table : List Entry) : Nat := table.countP fun e => decide (e.nominal < nominal)

/-! ## Matching a line -/

/-- What the matcher receives with a LINE capture: the scan axis entry with its value, latched state and latched epoch,
which the matcher does not test, two indications of the report, and the sequence number (R118, R135). -/
structure LineQuery where
  x : Int
  state : AxisState
  epoch : Nat
  valid : Bool
  fast : Bool
  seq : Word32

/-- What the matcher answers: a reason where one applies, a match part where a lookup was made (R135). -/
structure LineAnswer where
  reason : Option Reason
  part : Option MatchPart

/-- The pre-checks in their order (R136). -/
def preCheck (q : LineQuery) : Option Reason :=
  if q.state ≠ .referenced then some .axisNotReferenced
  else if q.valid = false then some .noVelocity
  else if q.fast then some .fast
  else none

/-- An entry lies the wrong way from the last matched nominal (R138). -/
def wrongWay (direction : Direction) (lastMatched : Option Int) (nominal : Int) : Bool :=
  match lastMatched with
  | none => false
  | some last =>
    match direction with
    | .forward => decide (nominal < last)
    | .reverse => decide (last < nominal)

/-- The result of a lookup that found entry `e` (R138, R139, R140). -/
def entryResult (direction : Direction) (lastMatched : Option Int) (e : Entry) : MatchResult :=
  if wrongWay direction lastMatched e.nominal then .outOfOrder else if e.hits = 0 then .matched else .double

/-- The entry found, after its result (R138, R139, R140). -/
def Entry.hit (seq : Word32) (result : MatchResult) (e : Entry) : Entry :=
  match result with
  | .matched => { e with hits := 1, firstHit := some seq }
  | .double => { e with hits := satSucc 255 e.hits }
  | .stray | .outOfOrder => e

/-- The reason a lookup result gives (R142). -/
def resultReason : MatchResult → Option Reason
  | .matched => none
  | .double => some .double
  | .stray => some .stray
  | .outOfOrder => some .outOfOrder

/-- The matcher after a lookup that found entry `e` at position `pos` (R134, R138 to R140). -/
def Matcher.found (m : Matcher) (seq : Word32) (result : MatchResult) (pos : Nat) (e : Entry) : Matcher :=
  { table := m.table.modify pos (Entry.hit seq result)
    lastMatched := if result = .matched then some e.nominal else m.lastMatched
    cursor := if result = .matched then some pos else m.cursor }

/-- A tally incremented (R156). -/
def Scan.tally (sc : Scan) : MatchResult → Scan
  | .matched => { sc with matched := satSucc 65535 sc.matched }
  | .stray => { sc with stray := satSucc 65535 sc.stray }
  | .double => { sc with double := satSucc 65535 sc.double }
  | .outOfOrder => { sc with outOfOrder := satSucc 65535 sc.outOfOrder }

/-- The direction of the scan as the descriptor holds it (R135); FORWARD without a descriptor, when nothing is
matched. -/
def State.scanDirection (s : State) : Direction :=
  match s.scan.descriptor with
  | some d => d.direction
  | none => .forward

/-- The lookup of a line that passed the pre-checks: table, matcher state and tally move together (R137 to R142). -/
def lookupLine (q : LineQuery) (s : State) : State × LineAnswer :=
  match findEntry (fun e => e.contains q.x) s.matcher.table with
  | none =>
    ({ s with scan := s.scan.tally .stray },
      { reason := some .stray, part := some { result := .stray, index := none, deviation := none } })
  | some (pos, e) =>
    let result := entryResult s.scanDirection s.matcher.lastMatched e
    ({ s with matcher := s.matcher.found q.seq result pos e, scan := s.scan.tally result },
      { reason := resultReason result
        part := some { result := result, index := some e.index, deviation := some (q.x - e.nominal) } })

/-- The matcher takes a LINE capture (R135 to R142). -/
def matchLine (q : LineQuery) (s : State) : State × LineAnswer :=
  match preCheck q with
  | some r => (s, { reason := some r, part := none })
  | none => lookupLine q s

/-! ## Table commands -/

/-- The table replaced by an edit; the scan cursor becomes absent (R128, R129, R130). -/
def editTable (table : List Entry) (s : State) : State :=
  { s with matcher := { s.matcher with table := table, cursor := none } }

/-- The tests of TABLE INSERT after its argument check, and the insertion (R127, R128). -/
def insertInto (e : Entry) (s : State) : Reply :=
  if s.scanIsOpen then .keep s .scanOpen (zeros 2)
  else if Config.tableCapacity ≤ s.matcher.table.length then .keep s .tableFull (zeros 2)
  else
    match findEntry (fun h => h.index == e.index) s.matcher.table with
    | some (pos, _) => .keep s .duplicateIndex (beNat 2 pos)
    | none =>
      match findEntry (fun h => e.meets h) s.matcher.table with
      | some (_, h) => .keep s .overlap (beNat 2 h.index)
      | none =>
        .ok (editTable (insertEntry e s.matcher.table) s) (beNat 2 (positionOf e.nominal s.matcher.table))

/-- TABLE INSERT (R127, R128). -/
def execTableInsert (index : BitVec 16) (nominal : BitVec 64) (halfWindow : BitVec 32) (retained : Byte) (s : State) :
    Host.Outcome State Fault Refusal :=
  takeCommand .tableInsert
    (fun s =>
      match switchOf retained with
      | none => .keep s .badArgument (zeros 2)
      | some keep =>
        if inLengthRange nominal.toInt && decide (1 ≤ halfWindow.toNat)
            && decide ((halfWindow.toNat : Int) ≤ Config.halfWindowLimit) then
          insertInto
            { index := index.toNat, nominal := nominal.toInt, halfWindow := halfWindow.toNat, retained := keep,
              hits := 0, firstHit := none } s
        else .keep s .badArgument (zeros 2)) s

/-- TABLE DELETE (R129). -/
def execTableDelete (index : BitVec 16) (force : Byte) (s : State) : Host.Outcome State Fault Refusal :=
  takeCommand .tableDelete
    (fun s =>
      match switchOf force with
      | none => .keep s .badArgument (zeros 2)
      | some forced =>
        if s.scanIsOpen then .keep s .scanOpen (zeros 2)
        else
          match findEntry (fun h => h.index == index.toNat) s.matcher.table with
          | none => .keep s .notFound (zeros 2)
          | some (pos, e) =>
            if e.retained && !forced then .keep s .retained (zeros 2)
            else
              .ok (editTable (s.matcher.table.filter fun h => h.index != index.toNat) s) (beNat 2 pos)) s

/-- TABLE FLUSH (R130). -/
def execTableFlush (option : Byte) (s : State) : Host.Outcome State Fault Refusal :=
  takeCommand .tableFlush
    (fun s =>
      match switchOf option with
      | none => .keep s .badArgument (zeros 4)
      | some all =>
        if s.scanIsOpen then .keep s .scanOpen (zeros 4)
        else
          let kept := s.matcher.table.filter fun e => e.retained && !all
          let removed := s.matcher.table.length - kept.length
          .ok (if removed = 0 then s else editTable kept s) (beNat 2 removed ++ beNat 2 kept.length)) s

/-- The TABLE READ response for an entry at a position (R131, R190). -/
def entryBytes (pos : Nat) (e : Entry) (total : Nat) : List Byte :=
  beNat 2 pos ++ beNat 2 e.index ++ be 8 e.nominal ++ be 4 e.halfWindow ++ beBool e.retained ++ beNat 1 e.hits
    ++ beOption 4 (e.firstHit.map fun q => (q.toNat : Int)) ++ beNat 2 total

/-- The entry that TABLE READ names: by position, or by index (R131). -/
def readEntry (byIndex : Bool) (key : Nat) (table : List Entry) : Option (Nat × Entry) :=
  if byIndex then findEntry (fun h => h.index == key) table else table[key]?.map fun e => (key, e)

/-- TABLE READ (R131). -/
def execTableRead (mode : Byte) (key : BitVec 16) (s : State) : Host.Outcome State Fault Refusal :=
  takeCommand .tableRead
    (fun s =>
      match switchOf mode with
      | none => .keep s .badArgument (zeros 25)
      | some byIndex =>
        if !byIndex && decide (Config.tableCapacity ≤ key.toNat) then .keep s .badArgument (zeros 25)
        else
          match readEntry byIndex key.toNat s.matcher.table with
          | none => .keep s .notFound (zeros 25)
          | some (pos, e) => .keep s .ok (entryBytes pos e s.matcher.table.length)) s

end Sys2Proof.Machine
end

