-- ==== Sys2Proof/Machine/Resets.lean ====
section
/-! DEFINITION. RESTART and the device reset (section "Resets" of the introduction, R183 and each chapter's reset
rule). -/

namespace Sys2Proof.Machine

/-- Every block reset, the parameter store and the table entries kept; the measurement link's own transaction goes on
(R125, R183). -/
def restartPart (s : State) : State :=
  { State.afterReset s.params (s.matcher.table.map Entry.clear) with
    pending := s.pending, resetLow := s.resetLow, mp := s.mp }

/-- RESTART (R183). -/
def execRestart (s : State) : Host.Outcome State Fault Refusal := takeCommand .restart (fun s => .ok (restartPart s)) s

/-- Every block and parameter at its reset state. A transaction is ended, with MP_SEL as the master holds it, so bytes
are ignored until it is asserted anew (R178). -/
def resetPart (held : Bool) (s : State) : State :=
  { State.reset with
    pending := s.pending, resetLow := held, mp := { selected := s.mp.selected, transaction := none } }

/-- DEVICE_RESET (R4 and each chapter's reset rule): RESET_N goes low, and is still held low after the event when
`held` is set. -/
def execDeviceReset (held : Bool) (s : State) : Host.Outcome State Fault Refusal := .next (resetPart held s)

end Sys2Proof.Machine
end

