-- ==== Sys2Proof/Machine/Rings.lean ====
section
/-! DEFINITION. Reading the rings and the events (chapter 9), the record encoding (R190), and the framing of the
measurement link (R178). -/

namespace Sys2Proof.Machine

/-! ## Record encoding (R190) -/

/-- One axis entry of a record. -/
def RecordAxis.bytes (a : RecordAxis) : List Byte :=
  beNat 1 a.axis ++ be 8 a.value ++ beNat 2 a.epoch ++ beNat 1 a.state.code ++ beBool a.velocity.isSome
    ++ be 4 (a.velocity.getD 0)

/-- The direction part. -/
def directionBytes : Option LineDirection → List Byte
  | none => []
  | some d => beNat 1 d.code

/-- The match part. -/
def matchBytes : Option MatchPart → List Byte
  | none => []
  | some m => beNat 1 m.result.code ++ beNat 2 (m.index.getD 0) ++ be 8 (m.deviation.getD 0)

/-- The exception reason. -/
def reasonBytes : Option Reason → List Byte
  | none => []
  | some r => beNat 1 r.code

/-- The summary of a kind; SCAN_END records alone carry one. -/
def CaptureKind.summary : CaptureKind → Option Summary
  | .scanEnd q => some q
  | .line _ _ | .strobe _ | .datum _ => none

/-- The summary part. -/
def summaryBytes : Option Summary → List Byte
  | none => []
  | some q =>
    beNat 2 q.matched ++ beNat 2 q.stray ++ beNat 2 q.double ++ beNat 2 q.outOfOrder ++ beNat 2 q.missed
      ++ beNat 1 q.cause.code

/-- The presence byte. -/
def Record.presence (r : Record) : Nat :=
  bitIf r.direction.isSome 0 + bitIf r.matchPart.isSome 1 + bitIf r.reason.isSome 2 + bitIf r.kind.summary.isSome 3

/-- A record after its length field. -/
def Record.body (r : Record) : List Byte :=
  beNat 4 r.seq.toNat ++ beNat 1 r.kind.kindCode ++ beNat 1 r.kind.sourceCode ++ beNat 4 r.gate.toNat
    ++ beNat 1 r.scanId ++ be 4 r.n ++ beNat 2 r.flags.code ++ beNat 2 r.lostBefore ++ beNat 1 r.axes.length
    ++ beNat 1 r.presence ++ r.axes.flatMap RecordAxis.bytes ++ directionBytes r.direction ++ matchBytes r.matchPart
    ++ reasonBytes r.reason ++ summaryBytes r.kind.summary

/-- A record as it leaves the part: its length, which counts the length field, then the rest. -/
def Record.bytes (r : Record) : List Byte := beNat 2 (r.body.length + 2) ++ r.body

/-! ## Ring reads -/

/-- The response of a ring read and the ring after it (R170). -/
def Ring.read (ring : Ring) : Ring × Status × List Byte :=
  match ring.records with
  | [] => (ring, .empty, beNat 2 0)
  | r :: _ => ({ ring with headUnderRead := true }, .ok, beNat 2 ring.records.length ++ r.bytes)

/-- READ RECORD (R170). -/
def execReadRecord (s : State) : Host.Outcome State Fault Refusal :=
  takeCommand .readRecord
    (fun s =>
      let r := s.main.read
      { state := { s with main := r.1 }, status := r.2.1, data := r.2.2 }) s

/-- READ EXCEPTION (R170). -/
def execReadException (s : State) : Host.Outcome State Fault Refusal :=
  takeCommand .readException
    (fun s =>
      let r := s.exc.read
      { state := { s with exc := r.1 }, status := r.2.1, data := r.2.2 }) s

/-- A ring at the end of the transaction that read it: the head is removed when it was clocked out in full (R171). -/
def Ring.endRead (complete : Bool) (ring : Ring) : Ring :=
  { ring with records := if complete then ring.records.tail else ring.records, headUnderRead := false }

/-- The end of a read of the main ring: a removal is compared with the water marks (R171). -/
def endMainRead (complete : Bool) (s : State) : State :=
  if s.main.headUnderRead then
    if complete then holdCompare { s with main := s.main.endRead true } else { s with main := s.main.endRead false }
  else s

/-- The end of a read of the exception ring (R171). -/
def endExceptionRead (complete : Bool) (s : State) : State :=
  if s.exc.headUnderRead then { s with exc := s.exc.endRead complete } else s

/-! ## Framing of the measurement link (R178) -/

/-- MP_SEL is asserted: a transaction begins. -/
def beginTransaction (s : State) : State :=
  if s.mp.selected then s
  else { s with mp := { selected := true, transaction := some { code := none, arguments := 0, taken := false, out := [] } } }

/-- MP_SEL is deasserted after `clocked` bytes of status and response: the transaction ends, a ring read decides its
removal, and a command not yet taken is discarded. -/
def endTransaction (clocked : Nat) (s : State) : State :=
  let idle := { s with mp := { selected := false, transaction := none } }
  match s.mp.transaction with
  | none => idle
  | some t =>
    let complete := decide (t.out.length ≤ clocked)
    endExceptionRead complete (endMainRead complete idle)

/-- The byte shifted out as byte `k` of a transaction, counted from 0 at its command byte: 0x00 while the command byte and
the argument bytes come in, then the status byte and the response bytes, and 0x00 after the last of them (R178). -/
def Transaction.shiftOut (t : Transaction) (k : Nat) : Byte :=
  if k < 1 + t.arguments then 0x00 else t.out.getD (k - (1 + t.arguments)) 0x00

/-- The byte on MP_MISO while byte `k` since the assertion of MP_SEL is clocked: 0x00 without a transaction, so also after
a device reset that ended it (R178). -/
def State.mpMiso (s : State) (k : Nat) : Byte :=
  match s.mp.transaction with
  | none => 0x00
  | some t => t.shiftOut k

/-- MP_SEL moves while RESET_N is held low: the part follows its level and opens no transaction. -/
def moveSelect (level : Bool) (s : State) : State := { s with mp := { s.mp with selected := level } }

/-- TRANSACTION_BEGIN (R178). -/
def execTransactionBegin (s : State) : Host.Outcome State Fault Refusal :=
  .next (if s.resetLow then moveSelect true s else beginTransaction s)

/-- TRANSACTION_END (R171, R178). -/
def execTransactionEnd (clocked : Nat) (s : State) : Host.Outcome State Fault Refusal :=
  .next (if s.resetLow then moveSelect false s else endTransaction clocked s)

/-- UNKNOWN_COMMAND (R178): a command byte outside the command summary is taken at once, with no arguments, and
answered UNKNOWN_COMMAND. A byte of the command summary is no unknown command and has no effect here. -/
def execUnknownCommand (code : Byte) (s : State) : Host.Outcome State Fault Refusal :=
  live s fun s =>
    match s.mp.transaction with
    | none => s
    | some t =>
      if t.taken || knownCode code then s
      else
        { s with
          mp :=
            { s.mp with
              transaction :=
                some { code := some code, arguments := 0, taken := true, out := [Status.unknownCommand.code] } } }

/-! ## Events -/

/-- READ EVENTS (R176). -/
def execReadEvents (s : State) : Host.Outcome State Fault Refusal :=
  takeCommand .readEvents
    (fun s => .ok { s with events := { s.events with pending := 0 } } (beNat 2 s.events.pending.toNat)) s

/-- SET EVENT MASK (R175). -/
def execSetEventMask (mask : BitVec 16) (s : State) : Host.Outcome State Fault Refusal :=
  takeCommand .setEventMask
    (fun s =>
      if mask.toNat < 4096 then .ok { s with events := { s.events with mask := mask.setWidth 12 } }
      else .keep s .badArgument) s

end Sys2Proof.Machine
end

