-- ==== Sys2Proof/Machine/Capturing.lean ====
section
/-! DEFINITION. The Capture Unit (chapter 6): line events, CAPTURE NOW and the finalization of captures at a gate
report. -/

namespace Sys2Proof.Machine

/-! ## Line events and CAPTURE NOW -/

/-- The scan that a line event of an input lies inside (R104). -/
def insideScan (s : State) (input : LineInput) : Option Descriptor :=
  if s.scan.state = .active then s.scan.descriptor.filter fun d => d.line == input else none

/-- A line event is judged inside or outside, then accepted or dropped (R103, R104). -/
def takeLineEvent (input : LineInput) (edge : Edge) (s : State) : State :=
  if edge ≠ lineEdge s.params input then s
  else
    match insideScan s input with
    | some d => acceptCapture (.line input (.inside d.axis)) (latchNow s (some d.axis)) s
    | none => if s.params.keepOutside then acceptCapture (.line input .outside) (latchNow s none) s else s

/-- LINE_EVENT (R103, R104). -/
def execLineEvent (input : LineInput) (edge : Edge) (s : State) : Host.Outcome State Fault Refusal :=
  live s (takeLineEvent input edge)

/-- CAPTURE NOW (R105). -/
def execCaptureNow (s : State) : Host.Outcome State Fault Refusal :=
  takeCommand .captureNow
    (fun s =>
      { state := acceptCapture (.strobe .command) (latchNow s none) s
        status := if s.slotFree then .ok else .noSlot
        data := beNat 4 s.capture.nextSeq.toNat }) s

/-! ## Finalization (R114 to R119) -/

/-- The compensated value of a LINE capture's axis entry, before its clamp (R61, R115). -/
def lineExact (p : Params) (r : GateReport) (input : LineInput) (a : LatchedAxis) : Int :=
  compensated a.value (r.axes.get a.axis).velocity (lineLatency p input) r.length r.tNs

/-- The value of an axis entry: X for a LINE capture whose velocity is valid, the latched A otherwise (R115). -/
def entryValue (p : Params) (r : GateReport) (kind : CaptureKind) (a : LatchedAxis) : Int :=
  match kind with
  | .line input _ => if (r.axes.get a.axis).valid then clampLength (lineExact p r input a) else a.value
  | .strobe _ | .datum _ | .scanEnd _ => a.value

/-- An axis entry was clamped at the latch, or its X is clamped at finalization (R115). -/
def entryClamped (p : Params) (r : GateReport) (kind : CaptureKind) (a : LatchedAxis) : Bool :=
  match kind with
  | .line input _ =>
    a.clamped || ((r.axes.get a.axis).valid && clampLength (lineExact p r input a) != lineExact p r input a)
  | .strobe _ | .datum _ | .scanEnd _ => a.clamped

/-- An axis entry completed from the report (R115). -/
def completeAxis (p : Params) (r : GateReport) (kind : CaptureKind) (a : LatchedAxis) : RecordAxis :=
  { axis := a.axis, value := entryValue p r kind a, epoch := a.epoch, state := a.state,
    velocity := if (r.axes.get a.axis).valid then some (r.axes.get a.axis).reported else none }

/-- The flags of a record (R116). -/
def recordFlags (p : Params) (r : GateReport) (c : Capture) : RecordFlags :=
  { laserNotLocked := c.latch.laserNotLocked
    lockForced := c.latch.lockForced
    envStale := c.latch.envStale
    trackerFrozen := c.latch.trackerFrozen
    test := c.latch.test
    axisClamp := c.latch.axes.any (entryClamped p r c.kind)
    noVelocity := c.latch.axes.any fun a => !(r.axes.get a.axis).valid
    notSteady := c.latch.axes.any fun a => !(r.axes.get a.axis).steady
    fast := c.latch.axes.any fun a => (r.axes.get a.axis).fast }

/-- The direction that a sign gives (R117). -/
def directionOfSign : Sign → LineDirection
  | .positive => .forward
  | .negative => .reverse
  | .zero | .none => .unknown

/-- The direction axis of a LINE capture (R117). -/
def directionAxis (mark : InsideMark) (latch : Latch) : Option (Fin 4) :=
  match mark with
  | .inside j | .scanEnded j => some j
  | .outside => latch.axes.head?.map fun a => a.axis

/-- The direction of a record; LINE records alone carry one (R117). -/
def recordDirection (r : GateReport) (c : Capture) : Option LineDirection :=
  match c.kind with
  | .line _ mark =>
    match directionAxis mark c.latch with
    | some j => some (directionOfSign (r.axes.get j).sign)
    | none => some .unknown
  | .strobe _ | .datum _ | .scanEnd _ => none

/-- A record without match part and reason (R115 to R117). lost_before is filled at the commit. -/
def baseRecord (p : Params) (r : GateReport) (c : Capture) : Record :=
  { seq := c.seq, kind := c.kind, gate := c.gate, scanId := c.latch.scanId, n := c.latch.n,
    flags := recordFlags p r c, lostBefore := 0, axes := c.latch.axes.map (completeAxis p r c.kind),
    direction := recordDirection r c, matchPart := none, reason := none }

/-- What the matcher receives of a capture marked inside on axis `j` (R118). -/
def lineQuery (p : Params) (r : GateReport) (c : Capture) (j : Fin 4) : LineQuery :=
  let entry := c.latch.axes.find? fun a => a.axis == j
  { x := (entry.map fun a => (completeAxis p r c.kind a).value).getD 0
    state := (entry.map fun a => a.state).getD .undefined
    epoch := (entry.map fun a => a.epoch).getD 0
    valid := (r.axes.get j).valid
    fast := (r.axes.get j).fast
    seq := c.seq }

/-- A line record goes to the main ring when it is MATCHED with no reason, else to the exception ring (R119). -/
def handLine (answer : LineAnswer) (rec : Record) (s : State) : State :=
  let r := { rec with matchPart := answer.part, reason := answer.reason }
  if answer.reason = none ∧ (answer.part.map fun q => q.result) = some .matched then handToMain r s
  else handToException r s

/-- A capture is completed and handed to its ring (R115 to R119). -/
def finalize (r : GateReport) (s : State) (c : Capture) : State :=
  match c.kind with
  | .line _ (.inside j) =>
    let answered := matchLine (lineQuery s.params r c j) s
    handLine answered.2 (baseRecord s.params r c) answered.1
  | .line _ .outside | .line _ (.scanEnded _) =>
    handLine { reason := some .outsideScan, part := none } (baseRecord s.params r c) s
  | .strobe _ | .datum _ | .scanEnd _ => handToMain (baseRecord s.params r c) s

/-- The Capture Unit takes a gate report: the captures that await its gate are finalized, oldest first, and their slots
become FREE (R114). -/
def takeCaptureReport (s : State) : State :=
  match s.due.capture with
  | none => s
  | some r =>
    let awaiting := s.capture.inFlight.filter fun c => c.gate == r.gate
    let rest := s.capture.inFlight.filter fun c => c.gate != r.gate
    awaiting.foldl (finalize r)
      { s with capture := { s.capture with inFlight := rest }, due := { s.due with capture := none } }

/-- CAPTURE_FINALIZATION (R114): the Capture Unit takes the gate report. -/
def execCaptureFinalization (s : State) : Host.Outcome State Fault Refusal := live s takeCaptureReport

end Sys2Proof.Machine
end

