-- ==== Sys2Proof/Machine/Phase.lean ====
section
/-! DEFINITION. The two places where the manual asks for the correctly rounded value of a transcendental function: the
phase of a corrected pair (R9) and the generator's sine and cosine (R194). Both are decided exactly, by doubling an
angle and reading one bit of it at each doubling. -/

namespace Sys2Proof.Machine

/-- The next `k` binary digits of the angle of the point (`re`, `im`), as a fraction of a turn, appended to `acc`. The
digit is 1 when the angle lies in the half turn from π on; squaring the point as a complex number doubles its angle. -/
def turnBits : Nat → Int → Int → Nat → Nat
  | 0, _, _, acc => acc
  | k + 1, re, im, acc =>
    turnBits k (re * re - im * im) (2 * re * im)
      (2 * acc + if im < 0 ∨ (im = 0 ∧ re < 0) then 1 else 0)

/-- The phase of the point (`c`, `s`) in phase units: the angle in units of 1/2048 turn rounded down, then halved
rounding up, with 1024 replaced by 0 (R9). It is meant for a point other than (0, 0). -/
def phaseOf (c s : Int) : Nat := (turnBits 11 c s 0 + 1) / 2 % 1024

/-- For the angle γ in 0..π with cos γ = `u / w`: whether γ ≤ `k`·π/2^`n` (with `le`), or γ ≥ `k`·π/2^`n` (without).
The angle is doubled, and folded back into 0..π, at each digit. -/
def compareAngle : Nat → Int → Int → Nat → Bool → Bool
  | 0, u, w, k, le => if le then decide (1 ≤ k ∨ u = w) else decide (k = 0 ∨ (k = 1 ∧ u = -w))
  | n + 1, u, w, k, le =>
    if k ≤ 2 ^ n then
      if u < 0 then !le else compareAngle n (2 * u * u - w * w) (w * w) k le
    else
      if 0 ≤ u then le else compareAngle n (2 * u * u - w * w) (w * w) (2 ^ (n + 1) - k) (!le)

/-- Whether `p / q` ≤ sin(2π`psi`/1024), for 0 ≤ `p` ≤ `q`, `q` > 0 and `psi` in the first quarter 0..256. The angle
compared is twice the arc sine, whose cosine is 1 − 2(p/q)². -/
def sineAtLeast (p q psi : Nat) : Bool :=
  compareAngle 8 ((q : Int) * q - 2 * p * p) ((q : Int) * q) psi true

/-- The bits below bit `k` of the largest `m` for which (2m − 1)/(2·`amp`) ≤ sin(2π`psi`/1024), added to `m`. -/
def sineBits (amp psi : Nat) : Nat → Nat → Nat
  | 0, m => m
  | k + 1, m =>
    sineBits amp psi k
      (if m + 2 ^ k ≤ amp ∧ sineAtLeast (2 * (m + 2 ^ k) - 1) (2 * amp) psi = true then m + 2 ^ k else m)

/-- `amp` × sin(2π`psi`/1024) rounded to nearest, for `psi` in the first quarter 0..256 (R194). -/
def quarterSine (amp psi : Nat) : Nat := sineBits amp psi (amp.log2 + 1) 0

/-- `amp` × sin(2π`psi`/1024) rounded to nearest, ties away from zero (R194). -/
def sineOf (amp psi : Nat) : Int :=
  match psi / 256 % 4 with
  | 0 => quarterSine amp (psi % 256)
  | 1 => quarterSine amp (256 - psi % 256)
  | 2 => -quarterSine amp (psi % 256)
  | _ => -quarterSine amp (256 - psi % 256)

/-- `amp` × cos(2π`psi`/1024) rounded to nearest, ties away from zero (R194). -/
def cosineOf (amp psi : Nat) : Int := sineOf amp (psi + 256)

end Sys2Proof.Machine
end

