-- ==== Sys2Proof/Machine/Channels.lean ====
section
/-! DEFINITION. Fringe Channels (chapter 1): correction and classification of a sample, the channel states, and the
channel commands. -/

namespace Sys2Proof.Machine

/-! ## Correction, amplitude and phase -/

/-- The corrected sine s' (R7). -/
def correctedSine (p : ChannelParams) (s : Int) : Int := s - p.offsetS

/-- The corrected cosine c' (R7). -/
def correctedCosine (p : ChannelParams) (s c : Int) : Int :=
  roundDiv ((c - p.offsetC) * p.gainC) 32768 - roundDiv (correctedSine p s * p.skew) 32768

/-- The amplitude of a corrected pair (R8). -/
def amplitude (s' c' : Int) : Nat := isqrt (s' * s' + c' * c').toNat

/-- A raw value touches a rail (R10). -/
def atRail (v : Int) : Bool := v == -32768 || v == 32767

/-- A sample as a channel classifies it: bad with a kind, or good with its phase (R9, R10). -/
inductive Sample where
  | bad (kind : LossCause)
  | good (phase : Nat)
  deriving DecidableEq, Repr

/-- The classification of a raw pair, its tests in their order (R10). -/
def classify (p : ChannelParams) (s c : Int) : Sample :=
  let s' := correctedSine p s
  let c' := correctedCosine p s c
  if atRail s || atRail c then .bad .clipped
  else if (amplitude s' c' : Int) < p.ampMin then .bad .signalLow
  else if p.ampMax < amplitude s' c' then .bad .clipped
  else .good (phaseOf c' s')

/-! ## The channel states -/

/-- The settle length (R12). -/
def settleLength (p : Params) : Nat := 2 ^ (12 + p.settleSel)

/-- A count lies within its range (R16). -/
def inCountRange (v : Int) : Bool := decide (-Config.countLimit ≤ v ∧ v ≤ Config.countLimit)

/-- The count aligned to a phase: the nearest value in range whose remainder modulo 1024 is the phase, the lower of two
equally near (R13). -/
def alignCount (held : Int) (phase : Nat) : Int :=
  let up := (phase - held) % 1024
  if up = 0 then held
  else
    let near := if up < 512 then held + up else held + up - 1024
    let far := if up < 512 then held + up - 1024 else held + up
    if inCountRange near then near else far

/-- The phase step brought into −512..511 (R14). -/
def phaseStep (phase last : Nat) : Int :=
  let d : Int := (phase : Int) - last
  if d < -512 then d + 1024 else if 511 < d then d - 1024 else d

/-- Entry to LOST: the common effects (R18). CHANNEL_LOST is raised where the change of state is seen. -/
def Channel.lose (ch : Channel) (cause : LossCause) : Channel :=
  { ch with state := .lost, cause := cause, settle := 0, badRun := 0, breaks := ch.breaks + 1 }

/-- A SETTLING channel takes a sample (R12, R13). -/
def Channel.settleSample (length : Nat) (sample : Sample) (ch : Channel) : Channel :=
  match sample with
  | .bad _ => { ch with settle := 0 }
  | .good phase =>
    if length ≤ ch.settle + 1 then
      { ch with state := .tracking, count := alignCount ch.count phase, lastPhase := phase, settle := 0, badRun := 0 }
    else { ch with settle := ch.settle + 1 }

/-- A TRACKING channel takes a good sample: an accepted step, OVERSPEED or OVERRANGE (R14, R15, R16). -/
def Channel.unwrap (limit : Int) (phase : Nat) (ch : Channel) : Channel :=
  let step := phaseStep phase ch.lastPhase
  if limit < step ∨ step < -limit then ch.lose .overspeed
  else if Config.countLimit < ch.count + step then
    { ch with count := Config.countLimit, lastPhase := phase }.lose .overrange
  else if ch.count + step < -Config.countLimit then
    { ch with count := -Config.countLimit, lastPhase := phase }.lose .overrange
  else { ch with count := ch.count + step, lastPhase := phase, badRun := 0 }

/-- A TRACKING channel takes a sample (R14 to R17). -/
def Channel.trackSample (persist : Nat) (limit : Int) (sample : Sample) (ch : Channel) : Channel :=
  match sample with
  | .bad kind => if persist ≤ ch.badRun + 1 then ch.lose kind else { ch with badRun := ch.badRun + 1 }
  | .good phase => ch.unwrap limit phase

/-- A LOST channel takes a sample (R19). -/
def Channel.lostSample (sample : Sample) (ch : Channel) : Channel :=
  match sample with
  | .bad _ => ch
  | .good _ => if ch.cause = .overrange then ch else { ch with state := .settling, cause := .none, settle := 1 }

/-- A channel takes the pair selected for it at an arrival (R2, R11 to R19). -/
def Channel.take (p : Params) (c : Fin 4) (pair : Int × Int) (ch : Channel) : Channel :=
  match ch.state with
  | .off => ch
  | .settling => ch.settleSample (settleLength p) (classify (p.channel.get c) pair.1 pair.2)
  | .tracking => ch.trackSample p.lossPersist p.stepLimit (classify (p.channel.get c) pair.1 pair.2)
  | .lost => ch.lostSample (classify (p.channel.get c) pair.1 pair.2)

/-- The pair that a channel's source selects (R3). -/
def selectPair (source : Source) (port generator : Int × Int) : Int × Int :=
  match source with
  | .input => port
  | .generator => generator

/-- The four channels after an arrival (R2, R3). -/
def takeSet (p : Params) (port : Four (Int × Int)) (generator : Int × Int) (chs : Four Channel) : Four Channel :=
  chs.mapIdx fun c ch => ch.take p c (selectPair ch.source (port.get c) generator)

/-- Some channel enters LOST between two states of the channels (R18). -/
def someLost (before after : Four Channel) : Bool :=
  indices.any fun c => (before.get c).state != .lost && (after.get c).state == .lost

/-! ## Commands and source changes -/

/-- A channel that starts settling with count 0 (R21, R23). -/
def Channel.fresh (ch : Channel) : Channel :=
  { ch with state := .settling, cause := .none, count := 0, lastPhase := 0, settle := 0, badRun := 0 }

/-- A channel after CHANNEL ENABLE (R21). -/
def Channel.enable (ch : Channel) : Channel := if ch.state = .off then ch.fresh else ch

/-- A channel after CHANNEL DISABLE (R22). -/
def Channel.disable (ch : Channel) : Channel :=
  if ch.state = .off then ch
  else { ch with state := .off, cause := .none, settle := 0, badRun := 0, breaks := ch.breaks + 1 }

/-- A channel after CHANNEL RESTART (R23). -/
def Channel.restart (ch : Channel) : Channel := { ch.fresh with breaks := ch.breaks + 1 }

/-- A channel whose source changes (R24). -/
def Channel.changeSource (ch : Channel) (source : Source) : Channel :=
  if ch.state = .off ∨ (ch.state = .lost ∧ ch.cause = .overrange) then
    { ch with source := source, breaks := ch.breaks + 1 }
  else
    { ch with
      state := .settling, cause := .none, settle := 0, badRun := 0, breaks := ch.breaks + 1, source := source }

/-- A channel command: the channel named changes by `f`, with the breaks that follow; a code outside 0..3 is refused
(section 1.5, R70). -/
def channelCommand (channel : Byte) (f : Channel → Channel) (s : State) : Reply :=
  match memberOf channel with
  | none => .keep s .badArgument
  | some c => .ok (setChannels (s.channels.set c (f (s.channels.get c))) s)

/-- CHANNEL ENABLE (R21). -/
def execChannelEnable (channel : Byte) (s : State) : Host.Outcome State Fault Refusal :=
  takeCommand .channelEnable (channelCommand channel Channel.enable) s

/-- CHANNEL DISABLE (R22). -/
def execChannelDisable (channel : Byte) (s : State) : Host.Outcome State Fault Refusal :=
  takeCommand .channelDisable (channelCommand channel Channel.disable) s

/-- CHANNEL RESTART (R23). -/
def execChannelRestart (channel : Byte) (s : State) : Host.Outcome State Fault Refusal :=
  takeCommand .channelRestart (channelCommand channel Channel.restart) s

end Sys2Proof.Machine
end

