-- ==== Sys2Proof/Machine/Datums.lean ====
section
/-! DEFINITION. The Datum Controller (sections 4.3, 4.4): reference-mark events, gate reports, DATUM ARM, DATUM CANCEL
and READ AXIS on the measurement link. -/

namespace Sys2Proof.Machine

/-! ## Reference marks and gate reports -/

/-- A slot is applied by an edge of a reference input (R81). -/
def DatumSlot.matchesMark (input : RefInput) (edge : Edge) (d : DatumSlot) : Bool :=
  d.state == .armed && d.source == sourceOfRef input && d.edge == edge

/-- A slot is applied at a gate end (R82). -/
def DatumSlot.immediateArmed (d : DatumSlot) : Bool := d.state == .armed && d.source == .immediate

/-- A reference-mark event (R81). -/
def takeMark (input : RefInput) (edge : Edge) (s : State) : State :=
  applyDatums (fun j => (s.slots.get j).matchesMark input edge) s

/-- REFERENCE_MARK_EVENT (R81). -/
def execReferenceMarkEvent (input : RefInput) (edge : Edge) (s : State) : Host.Outcome State Fault Refusal :=
  live s (takeMark input edge)

/-- An ARMED slot expires when this gate report is counted (R85). -/
def DatumSlot.expires (d : DatumSlot) : Bool :=
  d.state == .armed && d.timeout != 0 && satSucc 65535 d.age == d.timeout

/-- A slot after a gate report is counted in its age (R85). -/
def DatumSlot.countReport (d : DatumSlot) : DatumSlot :=
  if d.state = .armed then
    if d.expires then { d with age := satSucc 65535 d.age }.finish .timeout
    else { d with age := satSucc 65535 d.age }
  else d

/-- The ages of the ARMED slots counted, with the timeouts that expire (R85). -/
def ageSlots (s : State) : State :=
  raiseIf (indices.any fun j => (s.slots.get j).expires) .datumFailed
    { s with slots := s.slots.mapIdx fun _ d => d.countReport }

/-- The Datum Controller takes a gate end with its report: IMMEDIATE slots first, then ages (R82, R85). -/
def takeDatumReport (s : State) : State :=
  if s.due.datum then
    ageSlots (applyDatums (fun j => (s.slots.get j).immediateArmed) { s with due := { s.due with datum := false } })
  else s

/-- IMMEDIATE_DATUM (R82): the Datum Controller takes the gate report. -/
def execImmediateDatum (s : State) : Host.Outcome State Fault Refusal := live s takeDatumReport

/-- DATUM_TIMEOUT (R85): the Datum Controller takes the gate report. -/
def execDatumTimeout (s : State) : Host.Outcome State Fault Refusal := live s takeDatumReport

/-! ## Commands -/

/-- The status of a datum request on the measurement link (R77). -/
def RequestDecision.status : RequestDecision → Status
  | .armed => .ok
  | .deferred => .deferred
  | .axisUndefined => .axisUndefined
  | .notTracking => .notTracking
  | .datumBusy => .datumBusy

/-- DATUM ARM on the measurement link (R77). -/
def execDatumArm (axis source edge : Byte) (preset : BitVec 64) (timeout : BitVec 16) (s : State) :
    Host.Outcome State Fault Refusal :=
  takeCommand .datumArm
    (fun s =>
      match memberOf axis, datumSourceOf source, edgeOf edge with
      | some j, some src, some e =>
        if inLengthRange preset.toInt then
          let r := requestDatum s j .measurement src e preset.toInt timeout.toNat
          { state := r.1, status := r.2.status, data := [] }
        else .keep s .badArgument
      | _, _, _ => .keep s .badArgument) s

/-- DATUM CANCEL on the measurement link (R79). -/
def execDatumCancel (axis : Byte) (s : State) : Host.Outcome State Fault Refusal :=
  takeCommand .datumCancel
    (fun s =>
      match memberOf axis with
      | none => .keep s .badArgument
      | some j =>
        let r := cancelDatum s j .measurement
        { state := r.1, status := if r.2 then .ok else .notOwner, data := [] }) s

/-- The READ AXIS response (R65, R190). -/
def axisBytes (s : State) (j : Fin 4) : List Byte :=
  beNat 1 (s.axes.get j).state.code ++ beNat 2 (s.axes.get j).epoch ++ be 8 (axisValue s j)
    ++ beBool (axisClamped s j) ++ be 8 (rawValue s j) ++ be 4 s.refr.nInUse

/-- READ AXIS (R65). -/
def execReadAxis (axis : Byte) (s : State) : Host.Outcome State Fault Refusal :=
  takeCommand .readAxis
    (fun s =>
      match memberOf axis with
      | none => .keep s .badArgument (zeros 24)
      | some j => .keep s .ok (axisBytes s j)) s

end Sys2Proof.Machine
end

