-- ==== Sys2Proof/Machine/MotionMonitor.lean ====
section
/-! DEFINITION. The Motion Monitor (chapter 5): velocities, the steady and fast tests, the gate report and the adoption
of a gate length. -/

namespace Sys2Proof.Machine

/-- The gate length that GATE_SEL selects (R90). -/
def selectedLength (p : Params) : Nat := 256 * 2 ^ p.gateSel

/-- The sign of a velocity (R96). -/
def signOf (v : Int) : Sign := if 0 < v then .positive else if v < 0 then .negative else .zero

/-- The reported velocity in µm/s, truncated toward zero (R96). -/
def reportedVelocity (v : Int) (length : Nat) (tNs : Int) : Int := (v * 1000).tdiv (length * tNs)

/-- The velocity of axis `j` at this gate end (R94); absent when it is not valid. -/
def velocityAt (s : State) (j : Fin 4) (m : AxisMotion) : Option Int :=
  match m.prevSum with
  | some prev =>
    if s.allTracking j then
      some (clampTo (-Config.velocityLimit) Config.velocityLimit (geometricSum s j - prev))
    else none
  | none => none

/-- A velocity lies within HYST of the reference velocity (R97). -/
def withinHyst (hyst v ref : Int) : Bool := decide (-hyst ≤ v - ref ∧ v - ref ≤ hyst)

/-- The reference velocity and steady counter after the steady test (R97). -/
def steadyTest (hyst : Int) (velocity : Option Int) (m : AxisMotion) : Option Int × Nat :=
  match velocity, m.reference with
  | none, _ => (none, 0)
  | some v, none => (some v, 0)
  | some v, some ref => if withinHyst hyst v ref then (some ref, satSucc 255 m.steadyCount) else (some v, 0)

/-- The state of a defined axis after its gate end (R93, R94, R96, R97, R98). -/
def measureAxis (s : State) (j : Fin 4) (m : AxisMotion) : AxisMotion :=
  let velocity := velocityAt s j m
  let v := velocity.getD 0
  let reported := reportedVelocity v s.motion.gateLength s.params.tNs
  let test := steadyTest s.params.hyst velocity m
  { prevSum := if s.allTracking j then some (geometricSum s j) else none
    velocity := v
    valid := velocity.isSome
    reported := reported
    sign := if velocity.isSome then signOf v else .none
    reference := test.1
    steadyCount := test.2
    steady := decide (s.params.stableGates ≤ test.2)
    fast := velocity.isSome && decide (s.params.vMax < reported ∨ reported < -s.params.vMax) }

/-- The state of axis `j` after its gate end; everything absent or clear for an UNDEFINED axis (R93). -/
def axisGateEnd (s : State) (j : Fin 4) (m : AxisMotion) : AxisMotion :=
  if (s.axes.get j).state = .undefined then .reset else measureAxis s j m

/-- One axis of the report (R99). -/
def reportAxis (s : State) (j : Fin 4) (m : AxisMotion) : ReportAxis :=
  { defined := (s.axes.get j).state != .undefined, value := axisValue s j, clamped := axisClamped s j,
    velocity := m.velocity, reported := m.reported, valid := m.valid, sign := m.sign, steady := m.steady,
    fast := m.fast }

/-- An axis of the monitor after the adoption of a different gate length (R90). -/
def AxisMotion.newLength (m : AxisMotion) : AxisMotion := { m with reference := none, steadyCount := 0, steady := false }

/-- The monitor after adopting the stored gate length (R90). -/
def Motion.adoptLength (length : Nat) (m : Motion) : Motion :=
  if length = m.gateLength then m
  else { m with gateLength := length, axes := m.axes.mapIdx fun _ a => a.newLength }

/-- The axes of the monitor at this gate end, before the adoption of a gate length (R93 to R98). -/
def measuredAxes (s : State) : Four AxisMotion := s.motion.axes.mapIdx (axisGateEnd s)

/-- The report of this gate end (R99). -/
def gateReport (s : State) : GateReport :=
  { gate := s.motion.gateNumber, length := s.motion.gateLength, tNs := s.params.tNs,
    axes := (measuredAxes s).mapIdx (reportAxis s) }

/-- A gate end: velocities, report, gate number, gate length, in that order (R89); the blocks have still to take it. -/
def closeGate (s : State) : State :=
  { s with
    motion :=
      { s.motion with
        gateCounter := 0, gateNumber := s.motion.gateNumber + 1, axes := measuredAxes s }.adoptLength
        (selectedLength s.params)
    due :=
      { refractivity := true, capture := some (gateReport s), scan := some (gateReport s), datum := true, hold := true,
        test := true } }

end Sys2Proof.Machine
end

