-- ==== Sys2Proof/Machine/Scans.lean ====
section
/-! DEFINITION. The Scan Controller and the Hold Controller's gate reports (chapter 8). -/

namespace Sys2Proof.Machine

/-! ## Scan commands -/

/-- The tests of SCAN OPEN after its argument check (R147): the status of the first that refuses. -/
def scanRefusal (d : Descriptor) (s : State) : Option Status :=
  if s.scan.state ≠ .idle then some .scanBusy
  else if (d.direction = .forward ∧ ¬d.start < d.stop) ∨ (d.direction = .reverse ∧ ¬d.stop < d.start) then
    some .badRange
  else if (s.axes.get d.axis).state ≠ .referenced then some .axisNotReferenced
  else if s.effectiveLock ≠ .locked then some .notLocked
  else if s.refr.env = .stale ∧ s.refr.vacuumInForce = false then some .envStale
  else none

/-- A scan is opened (R133, R148). -/
def openScanWith (d : Descriptor) (s : State) : State :=
  { s with
    scan := { Scan.reset with state := .armed, descriptor := some d }
    matcher := { table := s.matcher.table.map Entry.clear, lastMatched := none, cursor := none }
    slots := s.slots.set d.axis (s.slots.get d.axis).defer }

/-- The descriptor that the arguments of SCAN OPEN spell; absent where one is BAD_ARGUMENT (R147). -/
def descriptorOf (id axis line direction : Byte) (start stop : BitVec 64) : Option Descriptor :=
  match memberOf axis, lineOf line, directionOf direction with
  | some j, some l, some r =>
    if 1 ≤ id.toNat ∧ inLengthRange start.toInt = true ∧ inLengthRange stop.toInt = true then
      some { id := id.toNat, axis := j, line := l, direction := r, start := start.toInt, stop := stop.toInt }
    else none
  | _, _, _ => none

/-- SCAN OPEN (R147, R148). -/
def execScanOpen (id axis line direction : Byte) (start stop : BitVec 64) (s : State) :
    Host.Outcome State Fault Refusal :=
  takeCommand .scanOpen
    (fun s =>
      match descriptorOf id axis line direction start stop with
      | none => .keep s .badArgument
      | some d =>
        match scanRefusal d s with
        | some st => .keep s st
        | none => .ok (openScanWith d s)) s

/-- SCAN CLOSE (R152). -/
def execScanClose (s : State) : Host.Outcome State Fault Refusal :=
  takeCommand .scanClose
    (fun s => if s.scanIsOpen then .ok (endScan .closed s) else .keep s .notOpen) s

/-- SCAN CLEAR (R155). -/
def execScanClear (s : State) : Host.Outcome State Fault Refusal :=
  takeCommand .scanClear
    (fun s =>
      if s.scan.state = .aborted then .ok { s with scan := { s.scan with state := .idle } }
      else .keep s .notAborted) s

/-! ## Gate reports -/

/-- A gate-end value has reached the start (R149). -/
def startReached (d : Descriptor) (value : Int) : Bool :=
  match d.direction with
  | .forward => decide (d.start ≤ value)
  | .reverse => decide (value ≤ d.start)

/-- A gate-end value has passed the stop (R150). -/
def stopPassed (d : Descriptor) (value : Int) : Bool :=
  match d.direction with
  | .forward => decide (d.stop < value)
  | .reverse => decide (value < d.stop)

/-- The Scan Controller's tests at a gate report (R149, R150). -/
def testScan (r : GateReport) (s : State) : State :=
  match s.scan.descriptor with
  | none => s
  | some d =>
    match s.scan.state with
    | .armed =>
      if startReached d (r.axes.get d.axis).value then
        { s with scan := { s.scan with state := .active, gateAtActive := some r.gate } }
      else s
    | .active => if stopPassed d (r.axes.get d.axis).value then endScan .stopReached s else s
    | .idle | .aborted => s

/-- The Scan Controller takes a gate report (R149, R150). -/
def takeScanReport (s : State) : State :=
  match s.due.scan with
  | none => s
  | some r => testScan r { s with due := { s.due with scan := none } }

/-- SCAN_ACTIVE (R149): the Scan Controller takes the gate report. -/
def execScanActive (s : State) : Host.Outcome State Fault Refusal := live s takeScanReport

/-- STOP_REACHED (R150): the Scan Controller takes the gate report. -/
def execStopReached (s : State) : Host.Outcome State Fault Refusal := live s takeScanReport

/-- The Hold Controller counts a gate report while HOLD_PENDING, and HOLD_UNSEEN is raised once in that stay
(R164). -/
def countHoldReport (s : State) : State :=
  if s.hold.state = .holdPending then
    let age := satSucc 65535 s.hold.age
    if s.params.holdTimeout ≤ age ∧ s.hold.unseen = false then
      raise .holdUnseen { s with hold := { s.hold with age := age, unseen := true } }
    else { s with hold := { s.hold with age := age } }
  else s

/-- The Hold Controller takes a gate report (R164). -/
def takeHoldReport (s : State) : State :=
  if s.due.hold then countHoldReport { s with due := { s.due with hold := false } } else s

/-- HOLD_UNSEEN (R164): the Hold Controller takes the gate report. -/
def execHoldUnseen (s : State) : Host.Outcome State Fault Refusal := live s takeHoldReport

end Sys2Proof.Machine
end

