-- ==== Sys2Proof/Machine/TestGenerator.lean ====
section
/-! DEFINITION. The Test Generator (chapter 11): the pair it forms at an arrival, its patterns, TEST START and TEST
STOP. -/

namespace Sys2Proof.Machine

/-! ## Forming the pair (R193, R194) -/

/-- Step 1: a new period begins when the position has reached the period (R193). -/
def Generator.beginPeriod (period : Nat) (g : Generator) : Generator :=
  if period ≤ g.position then
    { g with position := 0, reversed := if g.pattern = .shuttle then !g.reversed else g.reversed }
  else g

/-- The rate applied (R193, step 2). -/
def Generator.rate (rate : Int) (g : Generator) : Int :=
  if g.pattern = .shuttle ∧ g.reversed = true then -rate else rate

/-- Step 2: the phase advances, by half a fringe more when a jump is pending (R193). -/
def Generator.advancePhase (rate : Int) (g : Generator) : Generator :=
  { g with psi := ((g.psi + g.rate rate + if g.jump then 512 else 0) % 1024).toNat, jump := false }

/-- Step 3: the amplitude used (R193). -/
def Generator.amplitudeUsed (p : Params) (g : Generator) : Nat :=
  if g.pattern = .dropout ∧ p.testPeriod ≤ g.position + p.testDrop then 0 else p.testAmp

/-- The generator after steps 1 and 2 of R193. -/
def Generator.moved (p : Params) (g : Generator) : Generator := (g.beginPeriod p.testPeriod).advancePhase p.testRate

/-- The generator after an arrival (R193); unchanged while STOPPED. -/
def Generator.arrive (p : Params) (g : Generator) : Generator :=
  if g.running then { g.moved p with position := (g.moved p).position + 1 } else g

/-- The pair (s, c) formed at an arrival (R193, R194); (0, 0) while STOPPED, when no channel takes it. -/
def Generator.pair (p : Params) (g : Generator) : Int × Int :=
  if g.running then
    let m := g.moved p
    (sineOf (m.amplitudeUsed p) m.psi, cosineOf (m.amplitudeUsed p) m.psi)
  else (0, 0)

/-! ## Patterns -/

/-- The bit of a pattern in TEST_PATTERNS. -/
def Pattern.bit : Pattern → Nat
  | .constant => 0
  | .shuttle => 1
  | .dropout => 2
  | .jump => 3

/-- The pattern after another in the order of chapter 11, wrapping. -/
def Pattern.next : Pattern → Pattern
  | .constant => .shuttle
  | .shuttle => .dropout
  | .dropout => .jump
  | .jump => .constant

/-- The first enabled pattern from `x` on, looking at `n` of them; CONSTANT when none is enabled (R192, R196). -/
def enabledFrom (patterns : BitVec 4) : Nat → Pattern → Pattern
  | 0, _ => .constant
  | n + 1, x => if patterns.getLsbD x.bit then x else enabledFrom patterns n x.next

/-- The pattern a start takes (R192). -/
def firstPattern (p : Params) : Pattern := enabledFrom p.testPatterns 4 .constant

/-- The pattern an advance takes (R196). -/
def nextPattern (p : Params) (x : Pattern) : Pattern := enabledFrom p.testPatterns 4 x.next

/-- A generator that starts (R192). -/
def Generator.start (p : Params) : Generator :=
  { running := true, psi := 0, pattern := firstPattern p, reversed := false, position := 0,
    jump := firstPattern p == .jump, advance := 0 }

/-- A generator that advances to its next pattern (R196). -/
def Generator.advanceNow (p : Params) (g : Generator) : Generator :=
  { g with
    pattern := nextPattern p g.pattern, reversed := false, position := 0
    jump := nextPattern p g.pattern == .jump, advance := 0 }

/-- The Test Generator takes a gate report (R196). -/
def countTestReport (s : State) : State :=
  if s.gen.running then
    let n := satSucc 255 s.gen.advance
    if s.params.testAdvance ≠ 0 ∧ s.params.testAdvance ≤ n then
      raise .testAdvanced { s with gen := s.gen.advanceNow s.params }
    else { s with gen := { s.gen with advance := n } }
  else s

/-! ## Commands -/

/-- The channels after TEST START with a channel set (R24, R192). -/
def startChannels (set : Byte) (chs : Four Channel) : Four Channel :=
  chs.mapIdx fun c ch => if set.getLsbD c && ch.source == .input then ch.changeSource .generator else ch

/-- The channels after TEST STOP (R24, R192). -/
def stopChannels (chs : Four Channel) : Four Channel :=
  chs.mapIdx fun _ ch => if ch.source = .generator then ch.changeSource .input else ch

/-- TEST START (R192). -/
def execTestStart (channels : Byte) (s : State) : Host.Outcome State Fault Refusal :=
  takeCommand .testStart
    (fun s =>
      if channels.toNat = 0 ∨ 15 < channels.toNat then .keep s .badArgument
      else
        .ok (setChannels (startChannels channels s.channels)
          { s with gen := if s.gen.running then s.gen else .start s.params })) s

/-- TEST STOP (R192). -/
def execTestStop (s : State) : Host.Outcome State Fault Refusal :=
  takeCommand .testStop
    (fun s =>
      .ok (setChannels (stopChannels s.channels) { s with gen := { s.gen with running := false } })) s

end Sys2Proof.Machine
end

