-- ==== Sys2Proof/Machine/Sampling.lean ====
section
/-! DEFINITION. The sample-set port and the arrival of a sample set (R1, R2, R89), with everything that an arrival may
bring about. -/

namespace Sys2Proof.Machine

/-! ## What is left of the last gate end -/

/-- The Test Generator takes a gate report (R196). -/
def takeTestReport (s : State) : State :=
  if s.due.test then countTestReport { s with due := { s.due with test := false } } else s

/-- TEST_ADVANCED (R196): the Test Generator takes the gate report. -/
def execTestAdvanced (s : State) : Host.Outcome State Fault Refusal := live s takeTestReport

/-- Every block that has still to take the last gate end takes it, in the order in which R99 lists them, the
Refractivity Unit first. -/
def takeAll (s : State) : State :=
  takeTestReport (takeHoldReport (takeDatumReport (takeScanReport (takeCaptureReport (takeGateEndRefr s)))))

/-! ## The arrival -/

/-- The quadrature pair of channel `c` in the eight values of a set (R1). -/
def pairOf (values : List (BitVec 16)) (c : Fin 4) : Int × Int :=
  (((values[2 * (c : Nat)]?).getD 0).toInt, ((values[2 * (c : Nat) + 1]?).getD 0).toInt)

/-- The front end takes a set: the generator forms its pair, the four channels move together, CHANNEL_LOST is raised,
and breaks reach the axes and the scan (R2, R3, R18, R70, R193). -/
def frontEnd (values : List (BitVec 16)) (s : State) : State :=
  let after := takeSet s.params (.ofFn (pairOf values)) (s.gen.pair s.params) s.channels
  setChannels after
    (raiseIf (someLost s.channels after) .channelLost { s with gen := s.gen.arrive s.params })

/-- The Motion Monitor counts the arrival: a gate end, or one more in the gate; the environment is aged here, or by the
Refractivity Unit's taking of the gate end (R41, R89). -/
def countArrival (s : State) : State :=
  if s.motion.gateCounter + 1 = s.motion.gateLength then closeGate s
  else ageEnvironment { s with motion := { s.motion with gateCounter := s.motion.gateCounter + 1 } }

/-- The arrival of a sample set (R2): what is left of the last gate end, the refractivity that comes into use, the
front end, the Laser Lock Monitor, the Motion Monitor. DESIGN CHOICE (log entry 17): the environment is aged last, so a
SCAN_END capture accepted within the arrival latches ENV_STALE as it stood before the arrival was counted in the age, but
after vacuum mode has left force. DEDUCED (log entry 3): the Laser Lock
Monitor takes the arrival between the channels and the Motion Monitor, which R89 puts after the channels. -/
def arrive (values : List (BitVec 16)) (laserLock : Bool) (s : State) : State :=
  countArrival (lockArrive laserLock (frontEnd values (refrArrive (takeAll s))))

/-- A value is delivered with SS_STB: held as the next value of the incomplete set, or, as the eighth, the arrival
(R1). -/
def deliver (value : BitVec 16) (laserLock : Bool) (s : State) : State :=
  if Config.setValues ≤ s.samplePort.length + 1 then
    arrive (s.samplePort ++ [value]) laserLock { s with samplePort := [] }
  else { s with samplePort := s.samplePort ++ [value] }

/-- SAMPLE_VALUE_DELIVERED (R1). -/
def execSampleValueDelivered (value : BitVec 16) (laserLock : Bool) (s : State) : Host.Outcome State Fault Refusal :=
  live s (deliver value laserLock)

/-- SAMPLE_SET_ARRIVAL (R2). -/
def execSampleSetArrival (value : BitVec 16) (laserLock : Bool) (s : State) : Host.Outcome State Fault Refusal :=
  live s (deliver value laserLock)

/-- TEST_PERIOD_END (R193): an arrival; the generator's new period begins in it. -/
def execTestPeriodEnd (value : BitVec 16) (laserLock : Bool) (s : State) : Host.Outcome State Fault Refusal :=
  live s (deliver value laserLock)

/-- LOSS_PERSIST_REACHED (R17): an arrival; a channel's run of bad samples ends its tracking in it. -/
def execLossPersistReached (value : BitVec 16) (laserLock : Bool) (s : State) : Host.Outcome State Fault Refusal :=
  live s (deliver value laserLock)

/-- SETTLE_COMPLETE (R13): an arrival; a channel's settling run completes in it. -/
def execSettleComplete (value : BitVec 16) (laserLock : Bool) (s : State) : Host.Outcome State Fault Refusal :=
  live s (deliver value laserLock)

/-- LOCK_SETTLE_COMPLETE (R29): an arrival; the lock settle completes in it. -/
def execLockSettleComplete (value : BitVec 16) (laserLock : Bool) (s : State) : Host.Outcome State Fault Refusal :=
  live s (deliver value laserLock)

/-- ENV_STALE (R41): an arrival; the environment data grows stale in it. -/
def execEnvStale (value : BitVec 16) (laserLock : Bool) (s : State) : Host.Outcome State Fault Refusal :=
  live s (deliver value laserLock)

/-- An arrival, and every block's taking of the gate end that it brings, at once; a value before the eighth is held like
any other. -/
def deliverWhole (value : BitVec 16) (laserLock : Bool) (s : State) : State :=
  if Config.setValues ≤ s.samplePort.length + 1 then takeAll (deliver value laserLock s) else deliver value laserLock s

/-- GATE_END (R89): an arrival, and every block's taking of the gate end that it brings, at once. -/
def execGateEnd (value : BitVec 16) (laserLock : Bool) (s : State) : Host.Outcome State Fault Refusal :=
  live s (deliverWhole value laserLock)

/-- GATE_LENGTH_ADOPTED (R90): an arrival; the gate end that it brings adopts a written gate length. -/
def execGateLengthAdopted (value : BitVec 16) (laserLock : Bool) (s : State) : Host.Outcome State Fault Refusal :=
  live s (deliver value laserLock)

end Sys2Proof.Machine
end

