-- ==== Sys2Proof/Machine/Servo.lean ====
section
/-! DEFINITION. The servo link (section 10.2): SYNC arrivals, frame completion and the requests of completed frames. -/

namespace Sys2Proof.Machine

/-! ## Requests (R186) -/

/-- The code of a request byte: bits 7..6. -/
def requestCode (b : Byte) : Nat := b.toNat / 64

/-- The axis of a request byte: bits 5..4. -/
def requestAxis (b : Byte) : Fin 4 := indexOf (b.extractLsb' 4 2)

/-- The reference input of a request byte: bit 3. -/
def requestRef (b : Byte) : RefInput := if b.getLsbD 3 then .ref1 else .ref0

/-- The result of a datum request on the servo link (R78). -/
def RequestDecision.result : RequestDecision → RequestResult
  | .armed => .accepted
  | .deferred => .deferred
  | .axisUndefined => .axisUndefined
  | .notTracking => .notTracking
  | .datumBusy => .datumBusy

/-- The request of the completed frame has been taken with a result (R186). -/
def requestDone (result : RequestResult) (s : State) : State :=
  { s with sv := { s.sv with result := result, request := none } }

/-- DATUM ARM on the servo link: the axis's SERVO_PRESET, edge RISING, timeout 0 (R78). -/
def servoArm (j : Fin 4) (input : RefInput) (s : State) : State :=
  let r := requestDatum s j .servo (sourceOfRef input) .rising (s.params.servoPreset.get j) 0
  requestDone r.2.result r.1

/-- DATUM CANCEL on the servo link (R79). -/
def servoCancel (j : Fin 4) (s : State) : State :=
  let r := cancelDatum s j .servo
  requestDone (if r.2 then .accepted else .notOwner) r.1

/-- CAPTURE on the servo link: a STROBE capture with the latch of the frame's own SYNC (R106). -/
def servoStrobe (s : State) : State :=
  match s.sv.latch with
  | none => s
  | some latch =>
    requestDone (if s.slotFree then .accepted else .noSlot) (acceptCapture (.strobe .servo) latch s)

/-- The request byte of a completed frame is taken (R186). -/
def takeRequestByte (b : Byte) (s : State) : State :=
  match requestCode b with
  | 0 => requestDone .none s
  | 1 => servoArm (requestAxis b) (requestRef b) s
  | 2 => servoCancel (requestAxis b) s
  | _ => servoStrobe s

/-- The request of the completed frame, where one is due, is taken (R186). -/
def takeRequest (s : State) : State :=
  match s.sv.request with
  | none => s
  | some b => takeRequestByte b s

/-- The request due is taken where its byte carries the code given; a row does not concern a request of another
code. -/
def takeRequestOf (code : Nat) (s : State) : State :=
  if s.sv.request.map requestCode = some code then takeRequest s else s

/-- A frame request with code NONE (R186). -/
def execServoRequestNone (s : State) : Host.Outcome State Fault Refusal := live s (takeRequestOf 0)

/-- A frame request with code DATUM ARM (R78). -/
def execServoDatumArm (s : State) : Host.Outcome State Fault Refusal := live s (takeRequestOf 1)

/-- A frame request with code DATUM CANCEL (R79). -/
def execServoDatumCancel (s : State) : Host.Outcome State Fault Refusal := live s (takeRequestOf 2)

/-- A frame request with code CAPTURE (R106). -/
def execServoCapture (s : State) : Host.Outcome State Fault Refusal := live s (takeRequestOf 3)

/-! ## Frames -/

/-- The slot of a frame that shows an axis, or EMPTY (R63, R73, R187). -/
def frameSlot (s : State) (mapped : Option (Fin 4)) : FrameSlot :=
  match mapped with
  | none => { channelHold := false, state := .undefined, servo := 0 }
  | some j =>
    { channelHold := s.channelHold j, state := (s.axes.get j).state,
      servo := servoValue (axisValue s j) s.params.servoUnit }

/-- The frame latched now (R184). -/
def frameNow (s : State) : Frame :=
  { counter := s.sv.counter, hold := s.svHold, lock := s.effectiveLock, stale := s.refr.env == .stale,
    scanActive := s.scanIsOpen, result := s.sv.result, slots := s.params.servoMap.mapIdx fun _ m => frameSlot s m,
    clocked := 0 }

/-- The status byte of a frame (R186). -/
def Frame.statusByte (f : Frame) : Nat :=
  bitIf f.hold 7 + 32 * f.lock.code + bitIf f.stale 4 + bitIf f.scanActive 3

/-- The five bytes of a frame slot (R186). -/
def FrameSlot.bytes (f : FrameSlot) : List Byte := beNat 1 (bitIf f.channelHold 7 + f.state.code) ++ be 4 f.servo

/-- The 23 outbound bytes of a frame (R184, R186). -/
def Frame.bytes (f : Frame) : List Byte :=
  f.counter :: (beNat 1 f.statusByte ++ beNat 1 f.result.code ++ f.slots.a0.bytes ++ f.slots.a1.bytes ++ f.slots.a2.bytes
    ++ f.slots.a3.bytes)

/-- The byte on SV_DOUT while byte `k` since the last SYNC arrival is clocked: the frame's byte as latched, and 0x00 where
the frame state is NO_FRAME, so also after the frame's completion (R184, R185). -/
def State.svDout (s : State) (k : Nat) : Byte :=
  match s.sv.frame with
  | none => 0x00
  | some f => f.bytes.getD k 0x00

/-- A frame and a capture latch are latched from the last sample set; a frame in progress is discarded (R106,
R184). -/
def latchFrame (s : State) : State :=
  { s with sv := { s.sv with frame := some (frameNow s), latch := some (latchNow s none) } }

/-- A SYNC arrival (R184). A request of the frame completed before it is taken first. -/
def sync (s : State) : State := latchFrame (takeRequest s)

/-- SYNC_ARRIVAL (R184). -/
def execSyncArrival (s : State) : Host.Outcome State Fault Refusal := live s sync

/-- The Hold Controller's state after a completed frame that carried a hold flag (R162). -/
def deliverHold (flag : Bool) (h : Hold) : Hold :=
  match h.state with
  | .holdPending => if flag then { h with state := .holding } else h
  | .releasePending => if flag then h else { h with state := .run }
  | .run | .holding => h

/-- The 23rd byte of a frame: the counter advances, the hold is delivered, and the request byte waits to be taken
(R162, R185). Bytes clocked without a frame are ignored. -/
def completeFrame (request : Byte) (s : State) : State :=
  match s.sv.frame with
  | none => s
  | some f =>
    { s with
      sv := { s.sv with counter := s.sv.counter + 1, frame := none, request := some request }
      hold := deliverHold f.hold s.hold }

/-- SERVO_FRAME_COMPLETION (R185). -/
def execServoFrameCompletion (request : Byte) (s : State) : Host.Outcome State Fault Refusal :=
  live s (completeFrame request)

end Sys2Proof.Machine
end

