-- ==== Sys2Proof/Machine/Status.lean ====
section
/-! DEFINITION. IDENTIFY and READ STATUS (R183): the 402 bytes of the status response, group by group. -/

namespace Sys2Proof.Machine

/-- The bytes of four like things, in their order. -/
def bytesOfFour {α : Type} (f : Four α) (g : α → List Byte) : List Byte := g f.a0 ++ g f.a1 ++ g f.a2 ++ g f.a3

/-- A 32-bit number that may be absent. -/
def beOptionWord (w : Option Word32) : List Byte := beOption 4 (w.map fun q => (q.toNat : Int))

/-- A count that may be absent. -/
def beOptionNat (n : Nat) (v : Option Nat) : List Byte := beOption n (v.map fun q => (q : Int))

/-- One channel: 15 bytes. -/
def channelStatus (ch : Channel) : List Byte :=
  beNat 1 ch.state.code ++ beNat 1 ch.cause.code ++ beNat 1 ch.source.code ++ beNat 4 ch.breaks.toNat ++ be 8 ch.count

/-- The Laser Lock Monitor: 7 bytes. -/
def lockStatus (s : State) : List Byte :=
  beNat 1 s.lock.state.code ++ beNat 1 s.effectiveLock.code ++ beNat 4 s.lock.settle ++ beBool s.params.lockOverride

/-- The Refractivity Unit: 25 bytes. -/
def refractivityStatus (r : Refractivity) : List Byte :=
  be 4 r.nInUse ++ be 4 r.nBase ++ beNat 1 r.tracker.code ++ beNat 1 r.env.code ++ beNat 4 r.age
    ++ beNat 1 r.result.code ++ beOption 4 r.pending ++ beOption 4 r.held

/-- One axis with its datum slot: 32 bytes. -/
def axisStatus (a : Axis) (d : DatumSlot) : List Byte :=
  beNat 1 a.state.code ++ beNat 2 a.epoch ++ be 8 a.offset ++ be 4 a.nDat ++ beNat 1 d.state.code
    ++ beNat 1 (ownerCode d.owner) ++ beNat 1 d.source.code ++ be 1 (edgeCode d.edge) ++ be 8 d.preset
    ++ beNat 2 d.timeout ++ beNat 2 d.age ++ beNat 1 d.outcome.code

/-- The four axes: 128 bytes. -/
def axesStatus (s : State) : List Byte :=
  axisStatus s.axes.a0 s.slots.a0 ++ axisStatus s.axes.a1 s.slots.a1 ++ axisStatus s.axes.a2 s.slots.a2
    ++ axisStatus s.axes.a3 s.slots.a3

/-- The Motion Monitor: 9 bytes. -/
def gateStatus (s : State) : List Byte :=
  beNat 4 s.motion.gateNumber.toNat ++ beNat 2 s.motion.gateCounter ++ beNat 2 s.motion.gateLength
    ++ beNat 1 s.params.gateSel

/-- The motion of one axis: 18 bytes. -/
def motionStatus (m : AxisMotion) : List Byte :=
  be 4 m.velocity ++ be 4 m.reported ++ beBool m.valid ++ beNat 1 m.sign.code ++ beNat 1 m.steadyCount
    ++ beBool m.steady ++ beBool m.fast ++ beOption 4 m.reference

/-- The Capture Unit: 13 bytes; 0 for the oldest capture when none is in flight. -/
def captureStatus (c : CaptureUnit) : List Byte :=
  beNat 4 c.nextSeq.toNat ++ beNat 1 c.inFlight.length
    ++ match c.inFlight.head? with
      | some q => beNat 4 q.seq.toNat ++ beNat 4 q.gate.toNat
      | none => beNat 4 0 ++ beNat 4 0

/-- The cursor with the index of the entry it names. -/
def cursorStatus (m : Matcher) : List Byte :=
  match m.cursor with
  | none => 0 :: (beNat 2 0 ++ beNat 2 0)
  | some pos => 1 :: (beNat 2 pos ++ beNat 2 ((m.table[pos]?.map fun e => e.index).getD 0))

/-- The Graduation Matcher: 18 bytes. -/
def matcherStatus (m : Matcher) : List Byte :=
  beNat 2 m.table.length ++ beNat 2 (m.table.countP fun e => e.retained) ++ beOption 8 m.lastMatched ++ cursorStatus m

/-- The descriptor with its presence byte: 21 bytes. -/
def descriptorStatus : Option Descriptor → List Byte
  | none => zeros 21
  | some d =>
    1 :: (beNat 1 d.id ++ beNat 1 d.axis ++ beNat 1 (lineCode d.line) ++ beNat 1 d.direction.code ++ be 8 d.start
      ++ be 8 d.stop)

/-- The end cause: 0 when absent. -/
def endCauseCode : Option EndCause → Nat
  | none => 0
  | some c => c.code

/-- The Scan Controller: 39 bytes. -/
def scanStatus (c : Scan) : List Byte :=
  beNat 1 c.state.code ++ descriptorStatus c.descriptor ++ beNat 2 c.matched ++ beNat 2 c.stray ++ beNat 2 c.double
    ++ beNat 2 c.outOfOrder ++ beNat 1 (endCauseCode c.endCause) ++ beOptionNat 2 c.missed
    ++ beOptionWord c.gateAtActive

/-- The Hold Controller: 9 bytes. -/
def holdStatus (s : State) : List Byte :=
  beNat 1 s.hold.state.code ++ beBool s.svHold ++ beNat 2 s.hold.age ++ beBool s.hold.unseen
    ++ beNat 2 s.params.highWater ++ beNat 2 s.params.lowWater

/-- One ring: 9 bytes. -/
def ringStatus (r : Ring) : List Byte :=
  beNat 2 r.records.length ++ beNat 2 r.lost ++ beOptionWord (r.records.head?.map fun q => q.seq)

/-- The Event Unit: 4 bytes. -/
def eventStatus (e : Events) : List Byte := beNat 2 e.pending.toNat ++ beNat 2 e.mask.toNat

/-- The READ STATUS response: 402 bytes (R183). -/
def statusBytes (s : State) : List Byte :=
  bytesOfFour s.channels channelStatus ++ lockStatus s ++ refractivityStatus s.refr ++ axesStatus s ++ gateStatus s
    ++ bytesOfFour s.motion.axes motionStatus ++ captureStatus s.capture ++ matcherStatus s.matcher
    ++ scanStatus s.scan ++ holdStatus s ++ ringStatus s.main ++ ringStatus s.exc ++ eventStatus s.events

/-- READ STATUS (R183). -/
def execReadStatus (s : State) : Host.Outcome State Fault Refusal :=
  takeCommand .readStatus (fun s => .keep s .ok (statusBytes s)) s

/-- The IDENTIFY response: 12 bytes (R183). -/
def identityBytes : List Byte :=
  be 2 Config.deviceCode ++ be 1 Config.revision ++ beNat 1 4 ++ beNat 1 4 ++ beNat 1 Config.captureSlots
    ++ beNat 2 Config.mainCapacity ++ beNat 2 Config.exceptionCapacity ++ beNat 2 Config.tableCapacity

/-- IDENTIFY (R183). -/
def execIdentify (s : State) : Host.Outcome State Fault Refusal :=
  takeCommand .identify (fun s => .keep s .ok identityBytes) s

end Sys2Proof.Machine
end

