-- ==== Sys2Proof/Machine/Dispatch.lean ====
section
/-! DEFINITION. The meaning of each row of the opcode table. -/

namespace Sys2Proof.Machine

/-- One command or event reaches the part. -/
def exec (i : Instr) (s : State) : Host.Outcome State Fault Refusal :=
  match i with
  | .sampleSetArrival value laserLock => Sys2Proof.Machine.execSampleSetArrival value laserLock s
  | .testPeriodEnd value laserLock => Sys2Proof.Machine.execTestPeriodEnd value laserLock s
  | .lossPersistReached value laserLock => Sys2Proof.Machine.execLossPersistReached value laserLock s
  | .settleComplete value laserLock => Sys2Proof.Machine.execSettleComplete value laserLock s
  | .lockSettleComplete value laserLock => Sys2Proof.Machine.execLockSettleComplete value laserLock s
  | .envStale value laserLock => Sys2Proof.Machine.execEnvStale value laserLock s
  | .gateEnd value laserLock => Sys2Proof.Machine.execGateEnd value laserLock s
  | .gateLengthAdopted value laserLock => Sys2Proof.Machine.execGateLengthAdopted value laserLock s
  | .configurationAdopted => Sys2Proof.Machine.execConfigurationAdopted s
  | .heldUpdatePromoted => Sys2Proof.Machine.execHeldUpdatePromoted s
  | .envUpdateApplied => Sys2Proof.Machine.execEnvUpdateApplied s
  | .captureFinalization => Sys2Proof.Machine.execCaptureFinalization s
  | .scanActive => Sys2Proof.Machine.execScanActive s
  | .stopReached => Sys2Proof.Machine.execStopReached s
  | .immediateDatum => Sys2Proof.Machine.execImmediateDatum s
  | .datumTimeout => Sys2Proof.Machine.execDatumTimeout s
  | .holdUnseen => Sys2Proof.Machine.execHoldUnseen s
  | .testAdvanced => Sys2Proof.Machine.execTestAdvanced s
  | .lineEvent input edge => Sys2Proof.Machine.execLineEvent input edge s
  | .referenceMarkEvent input edge => Sys2Proof.Machine.execReferenceMarkEvent input edge s
  | .syncArrival => Sys2Proof.Machine.execSyncArrival s
  | .servoFrameCompletion request => Sys2Proof.Machine.execServoFrameCompletion request s
  | .servoRequestNone => Sys2Proof.Machine.execServoRequestNone s
  | .servoDatumArm => Sys2Proof.Machine.execServoDatumArm s
  | .servoDatumCancel => Sys2Proof.Machine.execServoDatumCancel s
  | .servoCapture => Sys2Proof.Machine.execServoCapture s
  | .transactionBegin => Sys2Proof.Machine.execTransactionBegin s
  | .transactionEnd clocked => Sys2Proof.Machine.execTransactionEnd clocked s
  | .identify => Sys2Proof.Machine.execIdentify s
  | .readStatus => Sys2Proof.Machine.execReadStatus s
  | .readEvents => Sys2Proof.Machine.execReadEvents s
  | .setEventMask mask => Sys2Proof.Machine.execSetEventMask mask s
  | .setParam number value => Sys2Proof.Machine.execSetParam number value s
  | .setParamWeight axis channel value => Sys2Proof.Machine.execSetParamWeight axis channel value s
  | .setParamLambda value => Sys2Proof.Machine.execSetParamLambda value s
  | .setParamPathK channel value => Sys2Proof.Machine.execSetParamPathK channel value s
  | .setParamDeadPath channel value => Sys2Proof.Machine.execSetParamDeadPath channel value s
  | .setParamTrackerCh value => Sys2Proof.Machine.execSetParamTrackerCh value s
  | .setParamLockOverride value => Sys2Proof.Machine.execSetParamLockOverride value s
  | .setParamAmpMin channel value => Sys2Proof.Machine.execSetParamAmpMin channel value s
  | .setParamAmpMax channel value => Sys2Proof.Machine.execSetParamAmpMax channel value s
  | .setParamHighWater value => Sys2Proof.Machine.execSetParamHighWater value s
  | .setParamLowWater value => Sys2Proof.Machine.execSetParamLowWater value s
  | .setParamServoPresetH axis value => Sys2Proof.Machine.execSetParamServoPresetH axis value s
  | .setParamServoPresetL axis value => Sys2Proof.Machine.execSetParamServoPresetL axis value s
  | .getParam number => Sys2Proof.Machine.execGetParam number s
  | .channelEnable channel => Sys2Proof.Machine.execChannelEnable channel s
  | .channelDisable channel => Sys2Proof.Machine.execChannelDisable channel s
  | .channelRestart channel => Sys2Proof.Machine.execChannelRestart channel s
  | .testStart channels => Sys2Proof.Machine.execTestStart channels s
  | .testStop => Sys2Proof.Machine.execTestStop s
  | .datumArm axis source edge preset timeout => Sys2Proof.Machine.execDatumArm axis source edge preset timeout s
  | .datumCancel axis => Sys2Proof.Machine.execDatumCancel axis s
  | .readAxis axis => Sys2Proof.Machine.execReadAxis axis s
  | .captureNow => Sys2Proof.Machine.execCaptureNow s
  | .tableInsert index nominal halfWindow retained => Sys2Proof.Machine.execTableInsert index nominal halfWindow retained s
  | .tableDelete index force => Sys2Proof.Machine.execTableDelete index force s
  | .tableFlush option => Sys2Proof.Machine.execTableFlush option s
  | .tableRead mode key => Sys2Proof.Machine.execTableRead mode key s
  | .scanOpen id axis line direction start stop => Sys2Proof.Machine.execScanOpen id axis line direction start stop s
  | .scanClose => Sys2Proof.Machine.execScanClose s
  | .scanClear => Sys2Proof.Machine.execScanClear s
  | .readRecord => Sys2Proof.Machine.execReadRecord s
  | .readException => Sys2Proof.Machine.execReadException s
  | .unknownCommand code => Sys2Proof.Machine.execUnknownCommand code s
  | .restart => Sys2Proof.Machine.execRestart s
  | .deviceReset held => Sys2Proof.Machine.execDeviceReset held s
  | .envUpdate => Sys2Proof.Machine.execEnvUpdate s
  | .malformedUpdate => Sys2Proof.Machine.execMalformedUpdate s
  | .pointerSet => Sys2Proof.Machine.execPointerSet s
  | .statusBlockRead address addrPin => Sys2Proof.Machine.execStatusBlockRead address addrPin s
  | .sampleValueDelivered value laserLock => Sys2Proof.Machine.execSampleValueDelivered value laserLock s
  | .envWriteBegin address addrPin bytes => Sys2Proof.Machine.execEnvWriteBegin address addrPin bytes s

end Sys2Proof.Machine
end

