-- ==== Sys2Proof/Safety.lean ====
section
/-! DEFINITION. The laws of the part and the words in which the claims are stated: what holds in every state the part can
reach, how a command of the measurement link is recognised and answered, and what the rounding and alignment rules ask of
a number; and the numbers of chapter 10, its codes and its parameter table, as the statements write them out. -/

namespace Sys2Proof.Machine

/-! ## Commands and their answers (section 10.1) -/

/-- Code and number of argument bytes of a row that is a command of the command summary; absent for every other row. -/
def summaryRow : Instr → Option (Byte × Nat)
  | .identify => some (0x01, 0)
  | .readStatus => some (0x02, 0)
  | .readEvents => some (0x03, 0)
  | .setEventMask _ => some (0x04, 2)
  | .setParam _ _ | .setParamWeight _ _ _ | .setParamLambda _ | .setParamPathK _ _ | .setParamDeadPath _ _
  | .setParamTrackerCh _ | .setParamLockOverride _ | .setParamAmpMin _ _ | .setParamAmpMax _ _ | .setParamHighWater _
  | .setParamLowWater _ | .setParamServoPresetH _ _ | .setParamServoPresetL _ _ => some (0x05, 6)
  | .getParam _ => some (0x06, 2)
  | .channelEnable _ => some (0x10, 1)
  | .channelDisable _ => some (0x11, 1)
  | .channelRestart _ => some (0x12, 1)
  | .testStart _ => some (0x14, 1)
  | .testStop => some (0x15, 0)
  | .datumArm _ _ _ _ _ => some (0x20, 13)
  | .datumCancel _ => some (0x21, 1)
  | .readAxis _ => some (0x22, 1)
  | .captureNow => some (0x23, 0)
  | .tableInsert _ _ _ _ => some (0x30, 15)
  | .tableDelete _ _ => some (0x31, 3)
  | .tableFlush _ => some (0x32, 1)
  | .tableRead _ _ => some (0x33, 3)
  | .scanOpen _ _ _ _ _ _ => some (0x40, 20)
  | .scanClose => some (0x41, 0)
  | .scanClear => some (0x42, 0)
  | .readRecord => some (0x50, 0)
  | .readException => some (0x51, 0)
  | .restart => some (0x7F, 0)
  | .sampleSetArrival _ _ | .testPeriodEnd _ _ | .lossPersistReached _ _ | .settleComplete _ _
  | .lockSettleComplete _ _ | .envStale _ _ | .gateEnd _ _ | .gateLengthAdopted _ _ | .configurationAdopted
  | .heldUpdatePromoted | .envUpdateApplied | .captureFinalization | .scanActive | .stopReached | .immediateDatum
  | .datumTimeout | .holdUnseen | .testAdvanced | .lineEvent _ _ | .referenceMarkEvent _ _ | .syncArrival
  | .servoFrameCompletion _ | .servoRequestNone | .servoDatumArm | .servoDatumCancel | .servoCapture
  | .transactionBegin | .transactionEnd _ | .unknownCommand _ | .deviceReset _ | .envUpdate | .malformedUpdate
  | .pointerSet | .statusBlockRead _ _ | .sampleValueDelivered _ _ | .envWriteBegin _ _ _ => none

/-- Response bytes of a command of the command summary; a ring read, whose record varies in length, apart. -/
def responseBytes (code : Byte) : Option Nat :=
  if code = 0x01 then some 12
  else if code = 0x02 then some 402
  else if code = 0x03 then some 2
  else if code = 0x05 ∨ code = 0x06 ∨ code = 0x23 ∨ code = 0x32 then some 4
  else if code = 0x22 then some 24
  else if code = 0x30 ∨ code = 0x31 then some 2
  else if code = 0x33 then some 25
  else if code = 0x50 ∨ code = 0x51 then none
  else some 0

/-- A transaction is open, its command is still to be taken, and the part is out of reset. -/
def State.Waits (s : State) : Prop :=
  s.resetLow = false ∧ (s.mp.transaction.map fun t => t.taken) = some false

/-- The state with the command of the open transaction answered: code, number of argument bytes, and the bytes that go
out (status first). -/
def State.answer (s : State) (code : Byte) (arguments : Nat) (out : List Byte) : State :=
  { s with mp := { s.mp with transaction := some { code := some code, arguments := arguments, taken := true, out := out } } }

/-- A row of the sample-set port: the strobe of one value. -/
def sampleRow : Instr → Option (BitVec 16 × Bool)
  | .sampleSetArrival v l | .testPeriodEnd v l | .lossPersistReached v l | .settleComplete v l
  | .lockSettleComplete v l | .envStale v l | .gateEnd v l | .gateLengthAdopted v l | .sampleValueDelivered v l =>
    some (v, l)
  | _ => none

/-- `t` is `s` after the acceptance of a capture: the next sequence number is spent, and a FREE one of the eight slots
takes the capture, awaiting the gate in progress; with none FREE the capture is lost, the main ring's lost count rises to at
most 65535, and RECORDS_LOST is raised (R108, R111). -/
def Accepted (kind : CaptureKind) (latch : Latch) (s t : State) : Prop :=
  (s.capture.inFlight.length < 8 →
    t = { s with
      capture :=
        { nextSeq := s.capture.nextSeq + 1
          inFlight := s.capture.inFlight ++
            [{ seq := s.capture.nextSeq, kind := kind, gate := s.motion.gateNumber, latch := latch }] } }) ∧
  (8 ≤ s.capture.inFlight.length →
    t = { s with
      capture := { s.capture with nextSeq := s.capture.nextSeq + 1 }
      main := { s.main with lost := if s.main.lost < 65535 then s.main.lost + 1 else 65535 }
      events := { s.events with pending := s.events.pending ||| 4 } })

/-- `t` is `s` after the acceptance of several captures, in the order listed (R108). -/
def AcceptedAll : List (CaptureKind × Latch) → State → State → Prop
  | [], s, t => t = s
  | (kind, latch) :: rest, s, t => ∃ m : State, Accepted kind latch s m ∧ AcceptedAll rest m t

/-- `t` is `s` after the datums of the slots in `chosen` are applied by one event. Where every weighted channel is TRACKING
the datum takes effect: the axis is REFERENCED with its next epoch, the offset that gives the preset, the N in use and the
channels' break numbers; the slot ends DONE. Elsewhere the slot ends NOT_TRACKING and the axis stays. DATUM_DONE and
DATUM_FAILED are raised for what happened. Then a DATUM capture of each datum that took effect is accepted, in ascending
order of axis, with its axis listed, latched after the datums (R72, R83, R84, R86, R107; that all datums precede the
latches is the model's choice, log entry 4). -/
def DatumsApplied (chosen : Fin 4 → Bool) (s t : State) : Prop :=
  ∃ u : State,
    u = { s with
      axes := u.axes, slots := u.slots
      events := { s.events with
        pending := s.events.pending ||| (if ∃ j, chosen j = true ∧ s.allTracking j = true then 32 else 0)
          ||| (if ∃ j, chosen j = true ∧ s.allTracking j = false then 64 else 0) } } ∧
    (∀ j,
      (chosen j = true → s.allTracking j = true →
        u.axes.get j =
          { state := .referenced, offset := (s.slots.get j).preset - geometricSum s j, nDat := s.refr.nInUse
            epoch := if (s.axes.get j).epoch = 65535 then 1 else (s.axes.get j).epoch + 1
            datumBreaks :=
              ⟨s.channels.a0.breaks, s.channels.a1.breaks, s.channels.a2.breaks, s.channels.a3.breaks⟩ } ∧
        u.slots.get j = { s.slots.get j with state := .idle, owner := none, outcome := .done }) ∧
      (chosen j = true → s.allTracking j = false →
        u.axes.get j = s.axes.get j ∧
        u.slots.get j = { s.slots.get j with state := .idle, owner := none, outcome := .notTracking }) ∧
      (chosen j = false → u.axes.get j = s.axes.get j ∧ u.slots.get j = s.slots.get j)) ∧
    AcceptedAll
      ((([0, 1, 2, 3] : List (Fin 4)).filter fun j => chosen j && s.allTracking j).map fun j =>
        (.datum (s.slots.get j).source, latchNow u (some j))) u t

/-! ## Numbers -/

/-- `q` is `n / d` rounded to nearest, ties away from zero, for a positive `d` (R49). -/
def IsRounded (n d q : Int) : Prop :=
  2 * (q * d - n) ≤ d ∧ 2 * (n - q * d) ≤ d ∧ (2 * (q * d - n) = d → 0 < n) ∧ (2 * (n - q * d) = d → n < 0)

/-- `v` is the count aligned to a phase (R13): in range, with that remainder, nearest to the held count, and the lower of
two equally near. -/
def IsAligned (held : Int) (phase : Nat) (v : Int) : Prop :=
  inCountRange v = true ∧ v % 1024 = phase ∧
    ∀ w : Int, inCountRange w = true → w % 1024 = phase →
      (v - held).natAbs < (w - held).natAbs ∨ ((v - held).natAbs = (w - held).natAbs ∧ v ≤ w)

/-! ## The codes and numbers of chapter 10, written out from its tables -/

/-- OFF, SETTLING, TRACKING, LOST: positions in the list of section 1.2 (R183). -/
def ChannelState.number : ChannelState → Int
  | .off => 0
  | .settling => 1
  | .tracking => 2
  | .lost => 3

/-- NONE, SIGNAL_LOW, CLIPPED, OVERSPEED, OVERRANGE: positions in the list of section 1.2 (R183). -/
def LossCause.number : LossCause → Int
  | .none => 0
  | .signalLow => 1
  | .clipped => 2
  | .overspeed => 3
  | .overrange => 4

/-- INPUT, GENERATOR: positions in the list of section 1.2 (R183). -/
def Source.number : Source → Int
  | .input => 0
  | .generator => 1

/-- 0 UNLOCKED, 1 SETTLING, 2 LOCKED (R186). -/
def LockState.number : LockState → Int
  | .unlocked => 0
  | .settling => 1
  | .locked => 2

/-- ABSENT, FOLLOWING, FROZEN: positions in the list of section 2.2 (R183). -/
def TrackerState.number : TrackerState → Int
  | .absent => 0
  | .following => 1
  | .frozen => 2

/-- 0 FRESH, 1 STALE (R189). -/
def EnvState.number : EnvState → Int
  | .fresh => 0
  | .stale => 1

/-- 0 NONE, 1 PENDING, 2 APPLIED, 3 CLAMPED, 4 HELD, 5 IGNORED, 6 MALFORMED (R189). -/
def UpdateResult.number : UpdateResult → Int
  | .none => 0
  | .pending => 1
  | .applied => 2
  | .clamped => 3
  | .held => 4
  | .ignored => 5
  | .malformed => 6

/-- 0 UNDEFINED, 1 UNREFERENCED, 2 REFERENCED, 3 BROKEN (R186). -/
def AxisState.number : AxisState → Int
  | .undefined => 0
  | .unreferenced => 1
  | .referenced => 2
  | .broken => 3

/-- IDLE, DEFERRED, ARMED: positions in the list of section 4.3 (R183). -/
def SlotState.number : SlotState → Int
  | .idle => 0
  | .deferred => 1
  | .armed => 2

/-- 0 absent, 1 SERVO, 2 MEASUREMENT (R183). -/
def ownerNumber : Option Owner → Int
  | none => 0
  | some .servo => 1
  | some .measurement => 2

/-- 0 REF0, 1 REF1, 2 IMMEDIATE (R183 and the argument codes of section 10.1). -/
def DatumSource.number : DatumSource → Int
  | .ref0 => 0
  | .ref1 => 1
  | .immediate => 2

/-- 0 RISING, 1 FALLING (R183 and the argument codes of section 10.1). -/
def edgeNumber : Edge → Int
  | .rising => 0
  | .falling => 1

/-- 0 NONE, 1 DONE, 2 NOT_TRACKING, 3 TIMEOUT, 4 AXIS_UNDEFINED, 5 CANCELLED (R183). -/
def DatumOutcome.number : DatumOutcome → Int
  | .none => 0
  | .done => 1
  | .notTracking => 2
  | .timeout => 3
  | .axisUndefined => 4
  | .cancelled => 5

/-- POSITIVE, NEGATIVE, ZERO, NONE: positions in the list of section 5.2 (R183). -/
def Sign.number : Sign → Int
  | .positive => 0
  | .negative => 1
  | .zero => 2
  | .none => 3

/-- IDLE, ARMED, ACTIVE, ABORTED: positions in the list of section 8.1 (R183). -/
def ScanState.number : ScanState → Int
  | .idle => 0
  | .armed => 1
  | .active => 2
  | .aborted => 3

/-- 0 LINE0, 1 LINE1 (the argument codes of section 10.1). -/
def lineNumber : LineInput → Int
  | .line0 => 0
  | .line1 => 1

/-- 0 FORWARD, 1 REVERSE (the argument codes of section 10.1). -/
def Direction.number : Direction → Int
  | .forward => 0
  | .reverse => 1

/-- 0 when absent; 1 STOP_REACHED, 2 CLOSED, 3 AXIS_BROKEN, 4 LASER_UNLOCK (R183, R190). -/
def endCauseNumber : Option EndCause → Int
  | none => 0
  | some .stopReached => 1
  | some .closed => 2
  | some .axisBroken => 3
  | some .laserUnlock => 4

/-- RUN, HOLD_PENDING, HOLDING, RELEASE_PENDING: positions in the list of section 8.5 (R183). -/
def HoldState.number : HoldState → Int
  | .run => 0
  | .holdPending => 1
  | .holding => 2
  | .releasePending => 3

/-- 0 NONE, 1 ACCEPTED, 2 DEFERRED, 3 DATUM_BUSY, 4 NOT_OWNER, 5 NOT_TRACKING, 6 AXIS_UNDEFINED, 7 NO_SLOT (R186). -/
def RequestResult.number : RequestResult → Int
  | .none => 0
  | .accepted => 1
  | .deferred => 2
  | .datumBusy => 3
  | .notOwner => 4
  | .notTracking => 5
  | .axisUndefined => 6
  | .noSlot => 7

/-- Place of a flag in the pending set and the mask: the order of the Event Unit's flag table (section 10.1). -/
def Flag.number : Flag → Nat
  | .mainReady => 0
  | .excReady => 1
  | .recordsLost => 2
  | .channelLost => 3
  | .axisBroken => 4
  | .datumDone => 5
  | .datumFailed => 6
  | .scanEnded => 7
  | .holdUnseen => 8
  | .laserUnlocked => 9
  | .envStale => 10
  | .testAdvanced => 11

/-- Place of a pattern in TEST_PATTERNS, 1 CONSTANT, 2 SHUTTLE, 4 DROPOUT, 8 JUMP (R181). -/
def Pattern.number : Pattern → Nat
  | .constant => 0
  | .shuttle => 1
  | .dropout => 2
  | .jump => 3

/-- An item of `n` bytes that may be absent: its presence byte and its value, 0 when absent (R183). -/
def item (n : Nat) : Option Int → List Byte
  | none => be 1 0 ++ be n 0
  | some v => be 1 1 ++ be n v

/-- Number of a parameter in the table of R181. -/
def tableNumber : Param → Nat
  | .offsetS c => 0x0010 + c
  | .offsetC c => 0x0014 + c
  | .gainC c => 0x0018 + c
  | .skew c => 0x001C + c
  | .ampMin c => 0x0020 + c
  | .ampMax c => 0x0024 + c
  | .pathK c => 0x0028 + c
  | .deadPath c => 0x002C + c
  | .settleSel => 0x0030
  | .lossPersist => 0x0031
  | .stepLimit => 0x0032
  | .lockSettle => 0x0040
  | .lockOverride => 0x0041
  | .nDefault => 0x0050
  | .trackerCh => 0x0051
  | .trackerLen => 0x0052
  | .envStepMax => 0x0053
  | .envStaleLimit => 0x0054
  | .vacuum => 0x0055
  | .lambda => 0x0060
  | .servoUnit => 0x0061
  | .weight j c => 0x0070 + 4 * j + c
  | .servoPresetH j => 0x0080 + j
  | .servoPresetL j => 0x0084 + j
  | .gateSel => 0x0090
  | .tNs => 0x0091
  | .hyst => 0x0092
  | .stableGates => 0x0093
  | .vMax => 0x0094
  | .lineEdge i => if i = .line0 then 0x00A0 else 0x00A1
  | .lineLatency i => if i = .line0 then 0x00A2 else 0x00A3
  | .lineOutside => 0x00A4
  | .captureAxes => 0x00A5
  | .highWater => 0x00B0
  | .lowWater => 0x00B1
  | .holdTimeout => 0x00B2
  | .servoMap i => 0x00C0 + i
  | .testAmp => 0x00D0
  | .testRate => 0x00D1
  | .testPeriod => 0x00D2
  | .testDrop => 0x00D3
  | .testPatterns => 0x00D4
  | .testAdvance => 0x00D5

/-- Range or codes of a parameter in the table of R181. HIGH_WATER and LOW_WATER stand with the widest range that the
other mark allows. -/
def tableKind : Param → ParamKind
  | .offsetS _ | .offsetC _ | .skew _ => .numeric (-4096) 4095
  | .gainC _ => .numeric 16384 65535
  | .ampMin _ => .numeric 64 32767
  | .ampMax _ => .numeric 65 32767
  | .pathK _ => .codes [2, 4, 8]
  | .deadPath _ => .numeric 0 2000000
  | .settleSel | .lockSettle | .gateSel => .codes [0, 1, 2, 3]
  | .lossPersist => .numeric 1 64
  | .stepLimit => .numeric 128 500
  | .lockOverride | .vacuum | .lineEdge _ | .lineOutside => .codes [0, 1]
  | .nDefault => .numeric 0 4000000
  | .trackerCh => .codes [0, 1, 2, 3, 255]
  | .trackerLen => .numeric 1000 1000000
  | .envStepMax => .numeric 0 100000
  | .envStaleLimit => .numeric 1 4095
  | .lambda => .numeric 400000000 1100000000
  | .servoUnit => .codes [1, 10, 100, 1000]
  | .weight _ _ => .numeric (-131072) 131071
  | .servoPresetH _ => .numeric (-32768) 32767
  | .servoPresetL _ => .numeric 0 4294967295
  | .tNs => .numeric 100 10000
  | .hyst => .numeric 0 16777215
  | .stableGates => .numeric 1 255
  | .vMax => .numeric 1 1000000
  | .lineLatency _ => .numeric 0 65535
  | .captureAxes | .testPatterns => .codes [0, 1, 2, 3, 4, 5, 6, 7, 8, 9, 10, 11, 12, 13, 14, 15]
  | .highWater => .numeric 1 512
  | .lowWater => .numeric 0 511
  | .holdTimeout => .numeric 1 65535
  | .servoMap _ => .codes [0, 1, 2, 3, 4]
  | .testAmp => .numeric 0 32767
  | .testRate => .numeric (-480) 480
  | .testPeriod | .testDrop => .numeric 1 65535
  | .testAdvance => .numeric 0 255

/-- LAMBDA, PATH_K, DEAD_PATH, the sixteen axis weights, TRACKER_CH, TRACKER_LEN, VACUUM, GATE_SEL, T_NS and
LINE_LATENCY: the parameters that enter the position arithmetic (R158). -/
def inArithmetic : Param → Bool
  | .lambda | .pathK _ | .deadPath _ | .weight _ _ | .trackerCh | .trackerLen | .vacuum | .gateSel | .tNs
  | .lineLatency _ => true
  | .offsetS _ | .offsetC _ | .gainC _ | .skew _ | .ampMin _ | .ampMax _ | .settleSel | .lossPersist | .stepLimit
  | .lockSettle | .lockOverride | .nDefault | .envStepMax | .envStaleLimit | .servoUnit | .servoPresetH _
  | .servoPresetL _ | .hyst | .stableGates | .vMax | .lineEdge _ | .lineOutside | .captureAxes | .highWater | .lowWater
  | .holdTimeout | .servoMap _ | .testAmp | .testRate | .testPeriod | .testDrop | .testPatterns | .testAdvance => false

/-! ## The laws -/

/-- The counts lie in their range, a TRACKING count has its last phase as its remainder, only a LOST channel has a loss
cause, and the generator runs exactly while a channel uses it (R14, R16, section 1.2, R191). -/
def ChannelLaw (s : State) : Prop :=
  (∀ c, inCountRange (s.channels.get c).count = true) ∧
  (∀ c, (s.channels.get c).state = .tracking → (s.channels.get c).count % 1024 = (s.channels.get c).lastPhase) ∧
  (∀ c, (s.channels.get c).state = .lost ↔ (s.channels.get c).cause ≠ .none) ∧
  (s.gen.running = true ↔ ∃ c, (s.channels.get c).source = .generator)

/-- A refractivity in its range. -/
def IsRefractivity (v : Int) : Prop := 0 ≤ v ∧ v ≤ Config.refractivityLimit

/-- The refractivity in use lies in its range and is 0 in vacuum mode, where the environment is FRESH with age 0 (R34,
R41). The rest says the same of the values from which the next one is formed. -/
def RefractivityLaw (s : State) : Prop :=
  IsRefractivity s.refr.nInUse ∧ (s.refr.vacuumInForce = true → s.refr.nInUse = 0) ∧
  (s.refr.vacuumInForce = true → s.refr.env = .fresh ∧ s.refr.age = 0) ∧
  IsRefractivity s.refr.nBase ∧ IsRefractivity s.params.nDefault ∧
  (∀ v, s.refr.nFormed = some v → IsRefractivity v) ∧ (∀ v, s.refr.pending = some v → IsRefractivity v) ∧
  (∀ v, s.refr.held = some v → IsRefractivity v) ∧
  (s.refr.config.vacuum = true →
    s.refr.nFormed = some 0 ∨ (s.refr.nFormed = none ∧ s.refr.vacuumInForce = true))

/-- A REFERENCED axis still has the break numbers of its datum on every weighted channel (R71). -/
def DatumLaw (s : State) : Prop :=
  ∀ j c, (s.axes.get j).state = .referenced → weighted s.params j c = true →
    (s.channels.get c).breaks = (s.axes.get j).datumBreaks.get c

/-- An axis is UNDEFINED exactly while its weights are 0; a slot is ARMED only with no scan open on its axis and DEFERRED
only with one; only a defined axis has a request, and exactly a slot with a request has an owner; the tracker channel has
weight 0 everywhere (R68, R80, R44). -/
def AxisLaw (s : State) : Prop :=
  (∀ j, (s.axes.get j).state = .undefined ↔ ∀ c, weighted s.params j c = false) ∧
  (∀ j, (s.slots.get j).state = .armed → s.scanOpenOn j = false) ∧
  (∀ j, (s.slots.get j).state = .deferred → s.scanOpenOn j = true) ∧
  (∀ j, (s.slots.get j).state ≠ .idle → (s.axes.get j).state ≠ .undefined) ∧
  (∀ j, (s.slots.get j).state = .idle ↔ (s.slots.get j).owner = none) ∧
  (∀ j c, s.params.trackerCh = some c → weighted s.params j c = false)

/-- Rings and slots keep their capacities, no sequence number stands twice in the rings, and the lost counts saturate
(R108, R166, R169). -/
def StoreLaw (s : State) : Prop :=
  s.main.records.length ≤ 512 ∧ s.exc.records.length ≤ 128 ∧ s.capture.inFlight.length ≤ 8 ∧
  ((s.main.records ++ s.exc.records).map fun r => r.seq).Nodup ∧ s.main.lost ≤ 65535 ∧ s.exc.lost ≤ 65535

/-- Sequence numbers stand in increasing order in each ring and among the captures in flight; every number held in a ring
is below those in flight, and all are below the next one; and a capture that awaits the gate in progress stands behind
those that do not (R108, R114, R166). It speaks of the numbers as they stand, so up to the wrap of the next number. -/
def SequenceLaw (s : State) : Prop :=
  (s.main.records.Pairwise fun a b => a.seq.toNat < b.seq.toNat) ∧
  (s.exc.records.Pairwise fun a b => a.seq.toNat < b.seq.toNat) ∧
  (s.capture.inFlight.Pairwise fun a b =>
    a.seq.toNat < b.seq.toNat ∧ (a.gate = s.motion.gateNumber → b.gate = s.motion.gateNumber)) ∧
  (∀ r, r ∈ s.main.records ∨ r ∈ s.exc.records →
    r.seq.toNat < s.capture.nextSeq.toNat ∧ ∀ q, q ∈ s.capture.inFlight → r.seq.toNat < q.seq.toNat) ∧
  ∀ q, q ∈ s.capture.inFlight → q.seq.toNat < s.capture.nextSeq.toNat

/-- Every capture in flight awaits the gate in progress, or the gate whose report the Capture Unit has still to take
(R111). -/
def AwaitedGateLaw (s : State) : Prop :=
  (∀ r, s.due.capture = some r → r.gate + 1 = s.motion.gateNumber) ∧
  ∀ q, q ∈ s.capture.inFlight →
    q.gate = s.motion.gateNumber ∨ (s.due.capture.isSome = true ∧ q.gate + 1 = s.motion.gateNumber)

/-- An entry's fields lie in their ranges (section 7.1). -/
def Entry.InRange (e : Entry) : Prop :=
  e.index ≤ 65535 ∧ inLengthRange e.nominal = true ∧ 1 ≤ e.halfWindow ∧ e.halfWindow ≤ 1000000000 ∧ e.hits ≤ 255

/-- At most 4096 entries, strictly ascending by nominal, with disjoint windows and distinct indices (R123). -/
def TableLaw (table : List Entry) : Prop :=
  table.length ≤ 4096 ∧ (∀ e, e ∈ table → e.InRange) ∧
  table.Pairwise fun a b =>
    a.nominal < b.nominal ∧ a.nominal + a.halfWindow < b.nominal - b.halfWindow ∧ a.index ≠ b.index

/-- The water marks are in order, and a main ring filled to HIGH_WATER has SV_HOLD asserted (R161, R163). -/
def HoldLaw (s : State) : Prop :=
  s.params.lowWater < s.params.highWater ∧ s.params.highWater ≤ 512 ∧
  (s.params.highWater ≤ s.main.records.length → s.svHold = true)

/-- A value lies in the range of its kind (R181). -/
def ParamKind.Holds : ParamKind → Int → Prop
  | .numeric lo hi, v => lo ≤ v ∧ v ≤ hi
  | .codes values, v => v ∈ values

/-- Every parameter holds a value of its table row, and the ordered pairs stand in order (R6, R163, R181, R182). -/
def ParamLaw (p : Params) : Prop :=
  (∀ q, (tableKind q).Holds (getParam p q)) ∧ (∀ c, (p.channel.get c).ampMin < (p.channel.get c).ampMax) ∧
  p.lowWater < p.highWater ∧ ∀ j, inLengthRange (p.servoPreset.get j) = true

/-- The gate in progress is shorter than its length, which is one of the four (R89, R90); every counter of the channels,
the Laser Lock Monitor, the Refractivity Unit, the Motion Monitor, the axes, the slots, the hold, the scan and the generator
stays in its range, with the parameters that bound them (R9, R12, R17, R29, R41, R72, R85, R97, R156, R164, R193, R196). -/
def CounterLaw (s : State) : Prop :=
  s.motion.gateCounter < s.motion.gateLength ∧
  (s.motion.gateLength = 256 ∨ s.motion.gateLength = 512 ∨ s.motion.gateLength = 1024 ∨ s.motion.gateLength = 2048) ∧
  s.params.gateSel ≤ 3 ∧ (∀ j, (s.motion.axes.get j).steadyCount ≤ 255) ∧ (∀ j, (s.axes.get j).epoch ≤ 65535) ∧
  (∀ j, (s.slots.get j).age ≤ 65535) ∧ s.hold.age ≤ 65535 ∧ s.gen.psi ≤ 1023 ∧ s.gen.advance ≤ 255 ∧
  s.scan.matched ≤ 65535 ∧ s.scan.stray ≤ 65535 ∧ s.scan.double ≤ 65535 ∧ s.scan.outOfOrder ≤ 65535 ∧
  (s.params.settleSel ≤ 3 ∧ s.params.lossPersist ≤ 64 ∧ s.params.lockSettle ≤ 3 ∧ s.params.envStaleLimit ≤ 4095 ∧
    s.params.testPeriod ≤ 65535) ∧
  (∀ c, (s.channels.get c).settle < 32768 ∧ (s.channels.get c).badRun < 64 ∧ (s.channels.get c).lastPhase ≤ 1023) ∧
  s.lock.settle < 524288 ∧ s.refr.age ≤ 268369920 ∧ (s.refr.env = .fresh → s.refr.age < 268369920) ∧
  s.gen.position ≤ 65535

/-- Every law of the part at once. -/
structure Lawful (s : State) : Prop where
  channels : ChannelLaw s
  refractivity : RefractivityLaw s
  datums : DatumLaw s
  axes : AxisLaw s
  store : StoreLaw s
  gates : AwaitedGateLaw s
  sequence : SequenceLaw s
  table : TableLaw s.matcher.table
  hold : HoldLaw s
  params : ParamLaw s.params
  counters : CounterLaw s

/-! ## What either reset leaves -/

/-- Default of a parameter in the table of R181. -/
def tableDefault : Param → Int
  | .offsetS _ | .offsetC _ | .skew _ | .deadPath _ => 0
  | .gainC _ => 32768
  | .ampMin _ => 3000
  | .ampMax _ => 30000
  | .pathK _ => 4
  | .settleSel => 1
  | .lossPersist => 8
  | .stepLimit => 384
  | .lockSettle => 2
  | .lockOverride => 0
  | .nDefault => 2700000
  | .trackerCh => 255
  | .trackerLen => 100000
  | .envStepMax => 50
  | .envStaleLimit => 610
  | .vacuum => 0
  | .lambda => 632991213
  | .servoUnit => 1000
  | .weight j c => if j = 0 ∧ c = 0 then 65536 else 0
  | .servoPresetH _ | .servoPresetL _ => 0
  | .gateSel => 2
  | .tNs => 250
  | .hyst => 20000
  | .stableGates => 8
  | .vMax => 50000
  | .lineEdge _ | .lineLatency _ | .lineOutside => 0
  | .captureAxes => 1
  | .highWater => 384
  | .lowWater => 128
  | .holdTimeout => 200
  | .servoMap i => (i : Nat)
  | .testAmp => 16000
  | .testRate => 32
  | .testPeriod => 4096
  | .testDrop => 16
  | .testPatterns => 1
  | .testAdvance => 0

/-- The values that the manual gives every block after either reset, on the parameters the state then holds (R1, R4, R33,
R43, R74, R88, R102, R121, R125, R146, R160, R173, R177, R184, R188, R191). -/
def AtReset (s : State) : Prop :=
  s.samplePort = [] ∧
  (∀ c, s.channels.get c =
    { state := .off, cause := .none, count := 0, lastPhase := 0, settle := 0, badRun := 0, breaks := 0,
      source := .input }) ∧
  s.lock = { state := .unlocked, settle := 0 } ∧
  s.refr.nBase = s.params.nDefault ∧ s.refr.tBase = 0 ∧ s.refr.age = 0 ∧ s.refr.pending = none ∧ s.refr.held = none ∧
  s.refr.result = .none ∧ s.refr.nInUse = (if s.params.vacuum then 0 else s.params.nDefault) ∧
  s.refr.env = (if s.params.vacuum then .fresh else .stale) ∧
  s.refr.tracker = (if s.params.trackerCh = none then .absent else .frozen) ∧
  s.refr.config.tracker = s.params.trackerCh ∧ s.refr.config.length = s.params.trackerLen ∧
  s.refr.config.lambda = s.params.lambda ∧ s.refr.config.vacuum = s.params.vacuum ∧
  (∀ j, s.axes.get j =
    { state := if ∀ c, (s.params.weight.get j).get c = 0 then .undefined else .unreferenced
      offset := 0, nDat := 0, epoch := 0, datumBreaks := ⟨0, 0, 0, 0⟩ }) ∧
  (∀ j, s.slots.get j =
    { state := .idle, owner := none, source := .ref0, edge := .rising, preset := 0, timeout := 0, age := 0,
      outcome := .none }) ∧
  s.motion.gateCounter = 0 ∧ s.motion.gateNumber = 0 ∧ s.motion.gateLength = 256 * 2 ^ s.params.gateSel ∧
  (∀ j, s.motion.axes.get j =
    { prevSum := none, velocity := 0, valid := false, reported := 0, sign := .none, reference := none, steadyCount := 0,
      steady := false, fast := false }) ∧
  s.capture = { nextSeq := 0, inFlight := [] } ∧
  (∀ e, e ∈ s.matcher.table → e.hits = 0 ∧ e.firstHit = none) ∧ s.matcher.lastMatched = none ∧
  s.matcher.cursor = none ∧
  s.scan =
    { state := .idle, descriptor := none, matched := 0, stray := 0, double := 0, outOfOrder := 0, endCause := none,
      missed := none, gateAtActive := none } ∧
  s.hold = { state := .run, age := 0, unseen := false } ∧
  s.main = { records := [], lost := 0, headUnderRead := false } ∧
  s.exc = { records := [], lost := 0, headUnderRead := false } ∧
  s.events = { pending := 0, mask := 0 } ∧
  s.sv.counter = 0 ∧ s.sv.frame = none ∧ s.sv.result = .none ∧ s.sv.latch = none ∧ s.sv.request = none ∧
  s.env.message = none ∧ s.env.acknowledged = 0 ∧
  s.gen =
    { running := false, psi := 0, pattern := .constant, reversed := false, position := 0, jump := false, advance := 0 }

end Sys2Proof.Machine
end

