-- ==== Sys2Proof/WellFormed.lean ====
section
/-! DEFINITION. Which commands are well formed: a row whose operand decides that it is another row's command is not. -/

namespace Sys2Proof

/-- Parameters that have a row of their own in the opcode table. -/
def hasOwnRow : Param → Bool
  | .weight _ _ | .lambda | .pathK _ | .deadPath _ | .trackerCh | .lockOverride | .ampMin _ | .ampMax _ | .highWater
  | .lowWater | .servoPresetH _ | .servoPresetL _ => true
  | _ => false

/-- SET_PARAM writes "a parameter that has no behaviour of its own": its number is not that of a parameter with a row
of its own. -/
def plainNumber (number : BitVec 16) : Bool := ((Machine.paramOfNumber number.toNat).map hasOwnRow).getD false == false

/-- A command is well formed. -/
def WellFormed : Instr → Bool
  | .setParam number _ => plainNumber number
  | .unknownCommand code => !Machine.knownCode code
  | _ => true

end Sys2Proof
end

