-- ==== Sys2Proof/Certificates/Slice0/Obligations.lean ====
section
/-! DEFINITION. The statements for the provers. Where a statement gives the next state as an equation, everything that the
equation does not change is unchanged: that is its frame. -/

open Sys2Proof Sys2Proof.Machine

/-! ## Steps, transactions and answers -/

/-- A step takes the command at the front of the queue and runs it with the rest of the queue; with nothing waiting the
part idles (the idling is the model's choice, log entry 10). -/
def Obligations.StepRunsTheFrontCommand : Prop :=
  (∀ (s : State) (c : Instr) (rest : List Instr), s.pending = c :: rest →
    step s = exec c { s with pending := rest }) ∧
  ∀ s : State, s.pending = [] → step s = .next s

/-- What is ignored: while RESET_N is held low everything but the level of MP_SEL and RESET_N itself (the model's reading
of R1 for the other events, log entry 5); a command or an unknown command byte without an open transaction that still
waits for its command (R178: a transaction carries one command).
TRANSACTION_BEGIN opens a transaction in IDLE (an assertion of MP_SEL that is already asserted has no effect: the
model's choice, log entry 6). TRANSACTION_END with no ring head under read ends it and changes nothing else. A command
byte outside the command summary is answered UNKNOWN_COMMAND with no response bytes and changes nothing (R178). -/
def Obligations.TransactionsBeginEndAndIgnore : Prop :=
  ((∀ (s : State) (i : Instr), s.resetLow = true → i ≠ .transactionBegin → (∀ n, i ≠ .transactionEnd n) →
    (∀ h, i ≠ .deviceReset h) → exec i s = .next s) ∧
  ∀ (s : State) (i : Instr), ((summaryRow i).isSome = true ∨ ∃ b, i = .unknownCommand b) → ¬ s.Waits →
    exec i s = .next s) ∧
  ((∀ s : State, s.resetLow = false → s.mp.selected = false →
    exec .transactionBegin s =
      .next { s with mp := { selected := true, transaction := some { code := none, arguments := 0, taken := false, out := [] } } }) ∧
  (∀ s : State, s.resetLow = false → s.mp.selected = true → exec .transactionBegin s = .next s) ∧
  (∀ (s : State) (n : Nat), s.resetLow = false → s.main.headUnderRead = false → s.exc.headUnderRead = false →
    exec (.transactionEnd n) s = .next { s with mp := { selected := false, transaction := none } }) ∧
  ∀ (s : State) (b : Byte), s.Waits → (∀ i n, summaryRow i ≠ some (b, n)) →
    exec (.unknownCommand b) s = .next (s.answer b 0 [0x11]))

/-- Every command of the command summary that is taken answers with its code and its number of argument bytes, a status
byte, and as many response bytes as the summary gives, whatever its status. On MP_MISO stand 0x00 while the command byte and
the argument bytes come in, then the status byte and the response bytes, then 0x00; and 0x00 before the command byte of a
transaction, without a transaction, and after a device reset (R178, R179, R183). -/
def Obligations.EveryCommandIsAnswered : Prop :=
  (∀ (s : State) (i : Instr) (code : Byte) (n : Nat), summaryRow i = some (code, n) → s.Waits →
    ∃ (t : State) (st : Byte) (data : List Byte), exec i s = .next t ∧
      t.mp = { s.mp with transaction := some { code := some code, arguments := n, taken := true, out := st :: data } } ∧
      (∀ k, responseBytes code = some k → data.length = k) ∧
      (∀ k, k < 1 + n → t.mpMiso k = 0x00) ∧ t.mpMiso (1 + n) = st ∧
      (∀ (k : Nat) (b : Byte), data[k]? = some b → t.mpMiso (2 + n + k) = b) ∧
      ∀ k, 2 + n + data.length ≤ k → t.mpMiso k = 0x00) ∧
  (∀ (s : State) (k : Nat), s.mp.transaction = none → s.mpMiso k = 0x00) ∧
  (∀ (s : State) (k : Nat), s.resetLow = false → s.mp.selected = false →
    ∃ t : State, exec .transactionBegin s = .next t ∧ t.mpMiso k = 0x00) ∧
  ∀ (s : State) (held : Bool) (k : Nat), ∃ t : State, exec (.deviceReset held) s = .next t ∧ t.mpMiso k = 0x00

/-- A status of 0x10 or above means that the command changed nothing but its answer; CAPTURE NOW apart (R179). -/
def Obligations.RefusalsChangeNothing : Prop :=
  ∀ (s t : State) (i : Instr) (code : Byte) (n : Nat) (st : Byte) (data : List Byte),
    summaryRow i = some (code, n) → i ≠ .captureNow → s.Waits → exec i s = .next t →
    t.mp.transaction = some { code := some code, arguments := n, taken := true, out := st :: data } →
    16 ≤ st.toNat → t = s.answer code n (st :: data)

/-- READ RECORD and READ EXCEPTION: EMPTY with a fill of 0 on an empty ring; otherwise OK with the fill and the head
record, and the head under read. The lost count and the flags stay (R170).
The end of a read transaction: with every byte of the answer clocked out the head is removed, and for the main ring
the new fill is compared with the water marks; with fewer the ring keeps its head. The other ring stays (R171).
The bytes of a record: its length, the header fields, an entry for each axis, and the parts that the presence byte marks,
in their order and with their codes (R190). -/
def Obligations.RingReadsReturnAndRemoveTheHead : Prop :=
  ((∀ s : State, s.Waits → s.main.records = [] → exec .readRecord s = .next (s.answer 0x50 0 [0x03, 0x00, 0x00])) ∧
  (∀ s : State, s.Waits → s.exc.records = [] → exec .readException s = .next (s.answer 0x51 0 [0x03, 0x00, 0x00])) ∧
  (∀ (s : State) (r : Record) (rest : List Record), s.Waits → s.main.records = r :: rest →
    exec .readRecord s =
      .next (({ s with main := { s.main with headUnderRead := true } }).answer 0x50 0
        (0x00 :: (be 2 (rest.length + 1) ++ r.bytes)))) ∧
  ∀ (s : State) (r : Record) (rest : List Record), s.Waits → s.exc.records = r :: rest →
    exec .readException s =
      .next (({ s with exc := { s.exc with headUnderRead := true } }).answer 0x51 0
        (0x00 :: (be 2 (rest.length + 1) ++ r.bytes)))) ∧
  (∀ (s : State) (tr : Transaction) (n : Nat), s.resetLow = false → s.mp.transaction = some tr →
    (s.main.headUnderRead = true → s.exc.headUnderRead = false →
      (tr.out.length ≤ n →
        exec (.transactionEnd n) s =
          .next (holdCompare
            { s with
              mp := { selected := false, transaction := none }
              main := { s.main with records := s.main.records.tail, headUnderRead := false } })) ∧
      (n < tr.out.length →
        exec (.transactionEnd n) s =
          .next
            { s with
              mp := { selected := false, transaction := none }
              main := { s.main with headUnderRead := false } })) ∧
    (s.exc.headUnderRead = true → s.main.headUnderRead = false →
      exec (.transactionEnd n) s =
        .next
          { s with
            mp := { selected := false, transaction := none }
            exc :=
              { s.exc with
                records := if tr.out.length ≤ n then s.exc.records.tail else s.exc.records, headUnderRead := false } })) ∧
  ∀ r : Record, ∃ (parts : List Byte) (flags presence : Nat),
    flags =
      (if r.flags.laserNotLocked then 1 else 0) + (if r.flags.lockForced then 2 else 0)
        + (if r.flags.envStale then 4 else 0) + (if r.flags.trackerFrozen then 8 else 0) + (if r.flags.test then 16 else 0)
        + (if r.flags.axisClamp then 32 else 0) + (if r.flags.noVelocity then 64 else 0)
        + (if r.flags.notSteady then 128 else 0) + (if r.flags.fast then 256 else 0) ∧
    presence =
      (if r.direction.isSome then 1 else 0) + (if r.matchPart.isSome then 2 else 0) + (if r.reason.isSome then 4 else 0)
        + (match r.kind with
          | .scanEnd _ => 8
          | _ => 0) ∧
    parts =
      (r.axes.flatMap fun a =>
        be 1 (a.axis : Nat) ++ be 8 a.value ++ be 2 a.epoch ++ be 1 a.state.number
          ++ (match a.velocity with
            | none => [0, 0, 0, 0, 0]
            | some v => 1 :: be 4 v : List Byte))
      ++ (match r.direction with
        | none => []
        | some .forward => [0]
        | some .reverse => [1]
        | some .unknown => [2] : List Byte)
      ++ (match r.matchPart with
        | none => []
        | some m =>
          (match m.result with
            | .matched => (0 : Byte)
            | .double => 1
            | .stray => 2
            | .outOfOrder => 3) :: (be 2 (m.index.getD 0) ++ be 8 (m.deviation.getD 0)))
      ++ (match r.reason with
        | none => []
        | some .outsideScan => [1]
        | some .axisNotReferenced => [2]
        | some .noVelocity => [3]
        | some .fast => [4]
        | some .stray => [5]
        | some .double => [6]
        | some .outOfOrder => [7] : List Byte)
      ++ (match r.kind with
        | .scanEnd q =>
          be 2 q.matched ++ be 2 q.stray ++ be 2 q.double ++ be 2 q.outOfOrder ++ be 2 q.missed
            ++ (match q.cause with
              | .stopReached => [1]
              | .closed => [2]
              | .axisBroken => [3]
              | .laserUnlock => [4] : List Byte)
        | _ => []) ∧
    r.bytes =
      be 2 (23 + parts.length) ++ be 4 r.seq.toNat
        ++ (match r.kind with
          | .line .line0 _ => [0, 0]
          | .line .line1 _ => [0, 1]
          | .strobe .command => [1, 2]
          | .strobe .servo => [1, 3]
          | .datum .ref0 => [2, 4]
          | .datum .ref1 => [2, 5]
          | .datum .immediate => [2, 6]
          | .scanEnd _ => [3, 7] : List Byte)
        ++ be 4 r.gate.toNat ++ be 1 r.scanId ++ be 4 r.n ++ be 2 flags ++ be 2 r.lostBefore ++ be 1 r.axes.length
        ++ be 1 presence ++ parts ∧
    r.bytes.length = 23 + parts.length ∧
    parts.length =
      17 * r.axes.length + (if r.direction.isSome then 1 else 0) + (if r.matchPart.isSome then 11 else 0)
        + (if r.reason.isSome then 1 else 0) + (match r.kind with
          | .scanEnd _ => 11
          | _ => 0)

/-! ## Exact arithmetic -/

/-- The phase of a corrected pair is the angle of the point from the positive c' axis, in units of 1/1024 turn, rounded
to nearest with a tie upward, and 1024 replaced by 0 (R9). -/
def Obligations.PhaseIsTheRoundedAngle : Prop :=
  ∀ c s : Int, (c ≠ 0 ∨ s ≠ 0) →
    ((phaseOf c s : Nat) : Int) =
      ⌊(if 0 ≤ Complex.arg ⟨(c : ℝ), (s : ℝ)⟩ then Complex.arg ⟨(c : ℝ), (s : ℝ)⟩
          else Complex.arg ⟨(c : ℝ), (s : ℝ)⟩ + 2 * Real.pi) * 1024 / (2 * Real.pi) + 1 / 2⌋ % 1024

/-- The generator's pair is A' sin and A' cos of the phase, each correctly rounded to nearest with ties away from zero
(R194). -/
def Obligations.GeneratorPairIsRounded : Prop :=
  ∀ (amp psi : Nat), amp ≤ 32767 → psi < 1024 →
    (|((sineOf amp psi : Int) : ℝ) - amp * Real.sin (2 * Real.pi * psi / 1024)| ≤ 1 / 2 ∧
      (|((sineOf amp psi : Int) : ℝ) - amp * Real.sin (2 * Real.pi * psi / 1024)| = 1 / 2 →
        |amp * Real.sin (2 * Real.pi * psi / 1024)| < |((sineOf amp psi : Int) : ℝ)|)) ∧
    (|((cosineOf amp psi : Int) : ℝ) - amp * Real.cos (2 * Real.pi * psi / 1024)| ≤ 1 / 2 ∧
      (|((cosineOf amp psi : Int) : ℝ) - amp * Real.cos (2 * Real.pi * psi / 1024)| = 1 / 2 →
        |amp * Real.cos (2 * Real.pi * psi / 1024)| < |((cosineOf amp psi : Int) : ℝ)|))

/-- A channel with neutral coefficients sees the generator's phase exactly, for every amplitude used of at least 4096
(R195). -/
def Obligations.NeutralChannelSeesTheGeneratorPhase : Prop :=
  ∀ (amp psi : Nat) (p : ChannelParams), 4096 ≤ amp → amp ≤ 32767 → psi < 1024 →
    p.offsetS = 0 → p.offsetC = 0 → p.gainC = 32768 → p.skew = 0 →
    phaseOf (correctedCosine p (sineOf amp psi) (cosineOf amp psi)) (correctedSine p (sineOf amp psi)) = psi

/-- The amplitude is the largest integer whose square does not exceed s'² + c'²; it is 0 for the pair (0, 0), which
is never a good sample with a phase, and above 32767 it lies above every permitted AMP_MAX (R8). -/
def Obligations.AmplitudeIsTheIntegerRoot : Prop :=
  (∀ s' c' : Int, (amplitude s' c' : Int) * amplitude s' c' ≤ s' * s' + c' * c' ∧
    s' * s' + c' * c' < ((amplitude s' c' : Int) + 1) * (amplitude s' c' + 1)) ∧
  amplitude 0 0 = 0 ∧
  (∀ (p : Params) (c : Fin 4) (s k : Int) (φ : Nat), ParamLaw p → correctedSine (p.channel.get c) s = 0 →
    correctedCosine (p.channel.get c) s k = 0 → classify (p.channel.get c) s k ≠ .good φ) ∧
  ∀ (p : Params) (c : Fin 4) (s' c' : Int), ParamLaw p → 32767 < amplitude s' c' →
    (p.channel.get c).ampMax < amplitude s' c'

/-- A raw pair is corrected in the three steps of R7 and classified by the tests of R10 in their order; a good sample has
the phase of the corrected pair. -/
def Obligations.SamplesAreCorrectedAndClassified : Prop :=
  ∀ (p : ChannelParams) (s c : Int), ∃ c1 e : Int,
    IsRounded ((c - p.offsetC) * p.gainC) 32768 c1 ∧ IsRounded ((s - p.offsetS) * p.skew) 32768 e ∧
    ((s = -32768 ∨ s = 32767 ∨ c = -32768 ∨ c = 32767) → classify p s c = .bad .clipped) ∧
    (¬ (s = -32768 ∨ s = 32767 ∨ c = -32768 ∨ c = 32767) →
      ((amplitude (s - p.offsetS) (c1 - e) : Int) < p.ampMin → classify p s c = .bad .signalLow) ∧
      (p.ampMin ≤ amplitude (s - p.offsetS) (c1 - e) → p.ampMax < amplitude (s - p.offsetS) (c1 - e) →
        classify p s c = .bad .clipped) ∧
      (p.ampMin ≤ amplitude (s - p.offsetS) (c1 - e) → (amplitude (s - p.offsetS) (c1 - e) : Int) ≤ p.ampMax →
        classify p s c = .good (phaseOf (c1 - e) (s - p.offsetS))))

/-- A rounded quotient is the nearest integer with ties away from zero, it is the only such integer, and rounding is
symmetric about zero (R49). A field of `n` bytes is sent most significant byte first, in two's complement: it has `n` bytes,
and read back unsigned it is the value modulo 256^n (chapter 10). -/
def Obligations.NumbersAreRoundedAndSentBigEndian : Prop :=
  (∀ n d : Int, 0 < d →
    IsRounded n d (roundDiv n d) ∧ (∀ q, IsRounded n d q → q = roundDiv n d) ∧ roundDiv (-n) d = -roundDiv n d) ∧
  ∀ (n : Nat) (v : Int), (be n v).length = n ∧ ((unsignedOf (be n v) : Nat) : Int) = v % 256 ^ n

/-! ## Sample sets and channels -/

/-- A value before the eighth is held as the next of its set, and nothing else changes (R1): the outcome of each of the
nine rows of the sample-set port (SAMPLE_VALUE_DELIVERED, SAMPLE_SET_ARRIVAL, TEST_PERIOD_END, LOSS_PERSIST_REACHED,
SETTLE_COMPLETE, LOCK_SETTLE_COMPLETE, ENV_STALE, GATE_END, GATE_LENGTH_ADOPTED) with fewer than seven values held. That
each of these rows is the delivery of one value is the model's choice (log entry 1).
The eighth value completes the set: the port is empty again, each channel on INPUT takes its own pair of the set in
the order of R1, each on GENERATOR the one pair that the generator forms for the arrival, and CHANNEL_LOST is pending when a
channel entered LOST (R2, R3, R18). -/
def Obligations.ValuesFormSetsAndArrivalsTakeThem : Prop :=
  (∀ (s : State) (i : Instr) (v : BitVec 16) (l : Bool), sampleRow i = some (v, l) → s.resetLow = false →
    s.samplePort.length < 7 → exec i s = .next { s with samplePort := s.samplePort ++ [v] }) ∧
  (∀ (s : State) (i : Instr) (v : BitVec 16) (l : Bool), sampleRow i = some (v, l) → s.resetLow = false →
    s.samplePort.length = 7 →
    ∃ t : State, exec i s = .next t ∧ t.samplePort = [] ∧ t.params = s.params ∧
      (∀ c, (s.channels.get c).source = .input →
        t.channels.get c =
          (s.channels.get c).take s.params c
            (((s.samplePort ++ [v]).getD (2 * c) 0).toInt, ((s.samplePort ++ [v]).getD (2 * c + 1) 0).toInt)) ∧
      (s.due.test = false → ∀ c, (s.channels.get c).source = .generator →
        t.channels.get c = (s.channels.get c).take s.params c (s.gen.pair s.params)) ∧
      ∀ c, (s.channels.get c).state ≠ .lost → (t.channels.get c).state = .lost → t.flagPending .channelLost = true)

/-- What a channel does with a classified sample in each of its states: OFF ignores it; SETTLING counts, restarts or
completes its run, and the completed run aligns the count to the phase; TRACKING adds an accepted step, loses on a step above STEP_LIMIT, stops
at the count limit, and counts bad samples up to LOSS_PERSIST; LOST returns to SETTLING on a good sample unless its cause
is OVERRANGE (R11 to R19). -/
def Obligations.ChannelTakesASample : Prop :=
  ∀ (p : Params) (c : Fin 4) (pair : Int × Int) (ch : Channel),
    (ch.state = .off → ch.take p c pair = ch) ∧
    (ch.state = .settling → ∀ k, classify (p.channel.get c) pair.1 pair.2 = .bad k →
      ch.take p c pair = { ch with settle := 0 }) ∧
    (ch.state = .settling → ∀ φ, classify (p.channel.get c) pair.1 pair.2 = .good φ →
      (ch.settle + 1 < 2 ^ (12 + p.settleSel) → ch.take p c pair = { ch with settle := ch.settle + 1 }) ∧
      (2 ^ (12 + p.settleSel) ≤ ch.settle + 1 → inCountRange ch.count = true →
        ∃ aligned : Int, IsAligned ch.count φ aligned ∧
          ch.take p c pair =
            { ch with state := .tracking, count := aligned, lastPhase := φ, settle := 0, badRun := 0 })) ∧
    (ch.state = .tracking → ch.lastPhase < 1024 → ∀ φ, classify (p.channel.get c) pair.1 pair.2 = .good φ →
      φ < 1024 ∧
      ∃ Δ : Int, -512 ≤ Δ ∧ Δ ≤ 511 ∧ ((φ : Int) - ch.lastPhase - Δ) % 1024 = 0 ∧
        (Δ.natAbs ≤ p.stepLimit.toNat → 0 ≤ p.stepLimit →
          (-549755813887 ≤ ch.count + Δ → ch.count + Δ ≤ 549755813887 →
            ch.take p c pair = { ch with count := ch.count + Δ, lastPhase := φ, badRun := 0 }) ∧
          (549755813887 < ch.count + Δ →
            ch.take p c pair =
              { ch with
                state := .lost, cause := .overrange, count := 549755813887, lastPhase := φ, settle := 0, badRun := 0,
                breaks := ch.breaks + 1 }) ∧
          (ch.count + Δ < -549755813887 →
            ch.take p c pair =
              { ch with
                state := .lost, cause := .overrange, count := -549755813887, lastPhase := φ, settle := 0, badRun := 0,
                breaks := ch.breaks + 1 })) ∧
        (p.stepLimit < Δ.natAbs →
          ch.take p c pair =
            { ch with state := .lost, cause := .overspeed, settle := 0, badRun := 0, breaks := ch.breaks + 1 })) ∧
    (ch.state = .tracking → ∀ k, classify (p.channel.get c) pair.1 pair.2 = .bad k →
      (ch.badRun + 1 < p.lossPersist → ch.take p c pair = { ch with badRun := ch.badRun + 1 }) ∧
      (p.lossPersist ≤ ch.badRun + 1 →
        ch.take p c pair =
          { ch with state := .lost, cause := k, settle := 0, badRun := 0, breaks := ch.breaks + 1 })) ∧
    (ch.state = .lost → ch.cause = .overrange → ch.take p c pair = ch) ∧
    (ch.state = .lost → ch.cause ≠ .overrange →
      (∀ k, classify (p.channel.get c) pair.1 pair.2 = .bad k → ch.take p c pair = ch) ∧
      ∀ φ, classify (p.channel.get c) pair.1 pair.2 = .good φ →
        ch.take p c pair = { ch with state := .settling, cause := .none, settle := 1 })

/-- SETTLE_COMPLETE: the arrival whose good sample brings the settle counter to the settle length takes the channel to
TRACKING with its count aligned to the phase: the value in range, with the phase as its remainder, nearest to the held
count, the lower of two equally near. So for a channel on INPUT, with its pair of the set, and for one on GENERATOR, with
the pair of the RUNNING generator's phase after this arrival, at the beginning of a period too (R12, R13, R193). -/
def Obligations.SettlingCompletesAligned : Prop :=
  (∀ (s : State) (v : BitVec 16) (l : Bool) (c : Fin 4) (φ : Nat), s.resetLow = false → s.samplePort.length = 7 →
    (s.channels.get c).state = .settling → (s.channels.get c).source = .input →
    inCountRange (s.channels.get c).count = true →
    classify (s.params.channel.get c) ((s.samplePort ++ [v]).getD (2 * c) 0).toInt
      ((s.samplePort ++ [v]).getD (2 * c + 1) 0).toInt = .good φ →
    2 ^ (12 + s.params.settleSel) ≤ (s.channels.get c).settle + 1 →
    ∃ (t : State) (aligned : Int), exec (.settleComplete v l) s = .next t ∧
      IsAligned (s.channels.get c).count φ aligned ∧ (aligned - (s.channels.get c).count).natAbs < 1024 ∧
      t.channels.get c =
        { s.channels.get c with state := .tracking, count := aligned, lastPhase := φ, settle := 0, badRun := 0 }) ∧
  ∀ (s : State) (v : BitVec 16) (l : Bool) (c : Fin 4) (φ position amp psi : Nat) (reversed : Bool), s.resetLow = false →
    s.samplePort.length = 7 → s.due.test = false → s.gen.running = true →
    (s.channels.get c).state = .settling → (s.channels.get c).source = .generator →
    inCountRange (s.channels.get c).count = true →
    position = (if s.params.testPeriod ≤ s.gen.position then 0 else s.gen.position) →
    reversed =
      (if s.params.testPeriod ≤ s.gen.position ∧ s.gen.pattern = .shuttle then !s.gen.reversed else s.gen.reversed) →
    (psi : Int) =
      (s.gen.psi + (if s.gen.pattern = .shuttle ∧ reversed = true then -s.params.testRate else s.params.testRate)
        + (if s.gen.jump then 512 else 0)) % 1024 →
    amp =
      (if s.gen.pattern = .dropout ∧ s.params.testPeriod ≤ position + s.params.testDrop then 0 else s.params.testAmp) →
    classify (s.params.channel.get c) (sineOf amp psi) (cosineOf amp psi) = .good φ →
    2 ^ (12 + s.params.settleSel) ≤ (s.channels.get c).settle + 1 →
    ∃ (t : State) (aligned : Int), exec (.settleComplete v l) s = .next t ∧
      IsAligned (s.channels.get c).count φ aligned ∧ (aligned - (s.channels.get c).count).natAbs < 1024 ∧
      t.channels.get c =
        { s.channels.get c with state := .tracking, count := aligned, lastPhase := φ, settle := 0, badRun := 0 }

/-- LOSS_PERSIST_REACHED: the arrival whose bad sample brings the bad-run counter to LOSS_PERSIST takes the channel to
LOST with the kind of that sample, the count held, one more break, and CHANNEL_LOST pending (R17, R18). -/
def Obligations.LossPersistEndsTracking : Prop :=
  ∀ (s : State) (v : BitVec 16) (l : Bool) (c : Fin 4) (k : LossCause), s.resetLow = false → s.samplePort.length = 7 →
    (s.channels.get c).state = .tracking → (s.channels.get c).source = .input →
    classify (s.params.channel.get c) ((s.samplePort ++ [v]).getD (2 * c) 0).toInt
      ((s.samplePort ++ [v]).getD (2 * c + 1) 0).toInt = .bad k →
    s.params.lossPersist ≤ (s.channels.get c).badRun + 1 →
    ∃ t : State, exec (.lossPersistReached v l) s = .next t ∧ t.flagPending .channelLost = true ∧
      t.channels.get c =
        { s.channels.get c with
          state := .lost, cause := k, settle := 0, badRun := 0, breaks := (s.channels.get c).breaks + 1 } ∧
      ∀ j, (s.axes.get j).state = .referenced → s.due.datum = false → weighted s.params j c = true →
        (s.axes.get j).datumBreaks.get c = (s.channels.get c).breaks →
        (t.axes.get j).state = .broken ∧ t.flagPending .axisBroken = true

/-- The channel commands in every state of the channel: a code outside 0..3 is BAD_ARGUMENT; ENABLE starts an OFF channel
with count 0 and leaves any other as it is; DISABLE takes a channel to OFF with its count held and one more break; RESTART
starts it afresh with one more break. The next state is that of the new channels, as `setChannels` carries their breaks to
the axes (R21, R22, R23). -/
def Obligations.ChannelCommandsActOnTheirChannel : Prop :=
  ∀ (s : State) (b : Byte), s.Waits →
    (∀ c : Fin 4, b.toNat = c →
      exec (.channelEnable b) s =
        .next (({ s with
          channels := s.channels.set c
            (if (s.channels.get c).state = ChannelState.off then
              { s.channels.get c with state := ChannelState.settling, cause := LossCause.none, count := 0, lastPhase := 0, settle := 0, badRun := 0 }
            else s.channels.get c) }).answer 0x10 1 [0x00]) ∧
      exec (.channelDisable b) s =
        .next ((setChannels
          (s.channels.set c
            (if (s.channels.get c).state = ChannelState.off then s.channels.get c
            else
              { s.channels.get c with
                state := ChannelState.off, cause := LossCause.none, settle := 0, badRun := 0, breaks := (s.channels.get c).breaks + 1 })) s).answer
          0x11 1 [0x00]) ∧
      exec (.channelRestart b) s =
        .next ((setChannels
          (s.channels.set c
            { s.channels.get c with
              state := ChannelState.settling, cause := LossCause.none, count := 0, lastPhase := 0, settle := 0, badRun := 0
              breaks := (s.channels.get c).breaks + 1 }) s).answer 0x12 1 [0x00])) ∧
    (4 ≤ b.toNat →
      exec (.channelEnable b) s = .next (s.answer 0x10 1 [0x10]) ∧
      exec (.channelDisable b) s = .next (s.answer 0x11 1 [0x10]) ∧
      exec (.channelRestart b) s = .next (s.answer 0x12 1 [0x10]))

/-- A change of the channels as it reaches the axes and the scan: exactly the REFERENCED axes with a weighted channel
whose break number moved away from the datum's become BROKEN and keep the rest; AXIS_BROKEN is raised for them and
otherwise no flag changes; a scan open on a broken axis ends in the same step, as every end of a scan does, ABORTED with cause
AXIS_BROKEN, and any other scan, the slots, the captures and the rings stay (R70, R151, R153). -/
def Obligations.BreaksReachTheAxesAndTheScan : Prop :=
  ∀ (s : State) (after : Four Channel), ∃ broken : Fin 4 → Bool,
    (∀ j, broken j = true ↔ (s.axes.get j).state = .referenced ∧
      ∃ c, weighted s.params j c = true ∧ (after.get c).breaks ≠ (s.channels.get c).breaks ∧
        (after.get c).breaks ≠ (s.axes.get j).datumBreaks.get c) ∧
    (∃ moved : State,
      moved = { s with
        channels := after, axes := moved.axes
        events := { s.events with
          pending := s.events.pending ||| (if ∃ j, broken j = true then 16 else 0) } } ∧
      (∀ j, moved.axes.get j = if broken j then { s.axes.get j with state := .broken } else s.axes.get j) ∧
      ((∀ d, s.openScan = some d → broken d.axis = false) → setChannels after s = moved) ∧
      ∀ d, s.openScan = some d → broken d.axis = true → setChannels after s = endScan .axisBroken moved) ∧
    (setChannels after s).channels = after ∧
    (∀ j, (setChannels after s).axes.get j =
      if broken j then { s.axes.get j with state := .broken } else s.axes.get j) ∧
    ((∃ j, broken j = true) → (setChannels after s).flagPending .axisBroken = true) ∧
    ((∀ j, broken j = false) → setChannels after s = { s with channels := after }) ∧
    ((∀ d, s.openScan = some d → broken d.axis = false) →
      setChannels after s =
        { s with
          channels := after, axes := (setChannels after s).axes
          events := { s.events with pending := (setChannels after s).events.pending } }) ∧
    ∀ d, s.openScan = some d → broken d.axis = true →
      (setChannels after s).scan.state = .aborted ∧ (setChannels after s).scan.endCause = some .axisBroken ∧
      (setChannels after s).scan.descriptor = some d ∧ (setChannels after s).flagPending .scanEnded = true

/-- TEST START refuses a set of 0 or above 15; else it starts a STOPPED generator on the first enabled pattern, leaves a
RUNNING one alone, and moves the named INPUT channels to GENERATOR. TEST STOP moves every GENERATOR channel back and stops
the generator. A moved channel settles afresh with its count kept, but for OFF and OVERRANGE, and has one more break
(R24, R192). -/
def Obligations.TestStartAndStopMoveSources : Prop :=
  (∀ (s : State) (b : Byte), s.Waits →
    ((b.toNat = 0 ∨ 15 < b.toNat) → exec (.testStart b) s = .next (s.answer 0x14 1 [0x10])) ∧
    (1 ≤ b.toNat → b.toNat ≤ 15 → ∃ t : State, exec (.testStart b) s = .next (t.answer 0x14 1 [0x00]) ∧
      t.gen = (if s.gen.running then s.gen
        else
          { running := true, psi := 0, reversed := false, position := 0, advance := 0
            pattern := if s.params.testPatterns.getLsbD 0 then .constant else if s.params.testPatterns.getLsbD 1 then .shuttle
              else if s.params.testPatterns.getLsbD 2 then .dropout else if s.params.testPatterns.getLsbD 3 then .jump
              else .constant
            jump := s.params.testPatterns = 8 }) ∧
      (∀ c : Fin 4, t.channels.get c =
        if b.getLsbD c = true ∧ (s.channels.get c).source = .input then
          if (s.channels.get c).state = .off ∨ ((s.channels.get c).state = .lost ∧ (s.channels.get c).cause = .overrange) then
            { s.channels.get c with source := .generator, breaks := (s.channels.get c).breaks + 1 }
          else
            { s.channels.get c with
              state := .settling, cause := .none, settle := 0, badRun := 0, source := .generator
              breaks := (s.channels.get c).breaks + 1 }
        else s.channels.get c) ∧
      t = setChannels t.channels { s with gen := t.gen })) ∧
  ∀ s : State, s.Waits → ∃ t : State, exec .testStop s = .next (t.answer 0x15 0 [0x00]) ∧
    t.gen = { s.gen with running := false } ∧
    (∀ c : Fin 4, t.channels.get c =
      if (s.channels.get c).source = .generator then
        if (s.channels.get c).state = .off ∨ ((s.channels.get c).state = .lost ∧ (s.channels.get c).cause = .overrange) then
          { s.channels.get c with source := .input, breaks := (s.channels.get c).breaks + 1 }
        else
          { s.channels.get c with
            state := .settling, cause := .none, settle := 0, badRun := 0, source := .input
            breaks := (s.channels.get c).breaks + 1 }
      else s.channels.get c) ∧
    t = setChannels t.channels { s with gen := t.gen }

/-- The RUNNING generator at an arrival. Below TEST_PERIOD: the phase advances by the rate applied, by 512 more where a jump
is pending, the position by 1, and every GENERATOR channel takes the pair of that phase, at amplitude 0 in the dropout of
DROPOUT (R3, R193, R194). TEST_PERIOD_END and TEST_ADVANCED: the arrival that finds the period position at TEST_PERIOD begins a period (in
SHUTTLE with the sign reversed) and advances the phase by the rate applied; the gate report that brings the advance count
to TEST_ADVANCE moves the generator to the next enabled pattern, keeps the phase, and raises TEST_ADVANCED and nothing
else (R193, R196). -/
def Obligations.GeneratorPeriodsAndAdvances : Prop :=
  (∀ (s : State) (i : Instr) (v : BitVec 16) (l : Bool) (amp : Nat), sampleRow i = some (v, l) →
    (i ≠ .gateEnd v l ∨ s.motion.gateCounter + 1 ≠ s.motion.gateLength) → s.resetLow = false →
    s.samplePort.length = 7 → s.due.test = false → s.gen.running = true → s.gen.position < s.params.testPeriod →
    amp =
      (if s.gen.pattern = .dropout ∧ s.params.testPeriod ≤ s.gen.position + s.params.testDrop then 0
        else s.params.testAmp) →
    ∃ t : State, exec i s = .next t ∧
      t.gen = { s.gen with position := s.gen.position + 1, psi := t.gen.psi, jump := false } ∧
      (t.gen.psi : Int) =
        (s.gen.psi + (if s.gen.pattern = .shuttle ∧ s.gen.reversed = true then -s.params.testRate else s.params.testRate)
          + (if s.gen.jump then 512 else 0)) % 1024 ∧
      ∀ c, (s.channels.get c).source = .generator →
        t.channels.get c =
          (s.channels.get c).take s.params c (sineOf amp t.gen.psi, cosineOf amp t.gen.psi)) ∧
  (∀ (s : State) (v : BitVec 16) (l : Bool), s.resetLow = false → s.samplePort.length = 7 → s.due.test = false →
    s.gen.running = true → s.params.testPeriod ≤ s.gen.position →
    ∃ t : State, exec (.testPeriodEnd v l) s = .next t ∧ t.gen.position = 1 ∧
      t.gen.reversed = (if s.gen.pattern = .shuttle then !s.gen.reversed else s.gen.reversed) ∧
      (t.gen.psi : Int) =
        (s.gen.psi + (if s.gen.pattern = .shuttle ∧ s.gen.reversed = false then -s.params.testRate else s.params.testRate)
          + (if s.gen.jump then 512 else 0)) % 1024 ∧
      t.gen.jump = false ∧ t.gen.pattern = s.gen.pattern ∧ t.gen.running = true ∧ t.gen.advance = s.gen.advance ∧
      ∀ c, (s.channels.get c).source = .generator →
        t.channels.get c =
          (s.channels.get c).take s.params c
            (sineOf (if s.gen.pattern = .dropout ∧ s.params.testPeriod ≤ s.params.testDrop then 0 else s.params.testAmp) t.gen.psi,
             cosineOf (if s.gen.pattern = .dropout ∧ s.params.testPeriod ≤ s.params.testDrop then 0 else s.params.testAmp)
               t.gen.psi)) ∧
  ∀ s : State, s.resetLow = false → s.due.test = true → s.gen.running = true →
    ((s.params.testAdvance = 0 ∨ min (s.gen.advance + 1) 255 < s.params.testAdvance) → s.gen.advance ≤ 255 →
      exec .testAdvanced s =
        .next { s with due := { s.due with test := false }, gen := { s.gen with advance := min (s.gen.advance + 1) 255 } }) ∧
    (s.params.testAdvance ≠ 0 → s.gen.advance ≤ 255 → s.params.testAdvance ≤ min (s.gen.advance + 1) 255 →
      ∃ next : Pattern,
        (s.params.testPatterns = 0 → next = .constant) ∧
        (s.params.testPatterns ≠ 0 → s.params.testPatterns.getLsbD next.number = true ∧
          ∀ between : Pattern,
            (between.number + 4 - s.gen.pattern.number - 1) % 4 < (next.number + 4 - s.gen.pattern.number - 1) % 4 →
            s.params.testPatterns.getLsbD between.number = false) ∧
        exec .testAdvanced s =
          .next (raise .testAdvanced
            { s with
              due := { s.due with test := false }
              gen :=
                { s.gen with
                  pattern := next, reversed := false, position := 0, jump := next == .jump, advance := 0 } }))

/-! ## Laser lock and refractivity -/

/-- The Laser Lock Monitor at each arrival, by the level of LASER_LOCK: a high level starts settling, counts it, and
completes it at the settle length (LOCK_SETTLE_COMPLETE); a low level gives UNLOCKED, with LASER_UNLOCKED when it was
LOCKED. When LOCKED is left without LOCK_OVERRIDE and with no gate end left to take, a scan that is open is ABORTED at that
arrival, by the unlock or by a break. With no gate end left to take, the breaks of the arrival reach the axes and the scan
first, and the unlock then ends a scan still open as every end of a scan goes; the GATE_END row at a gate end, where blocks
take that gate end as well, stands apart from this clause. That breaks, unlock and gate count follow in this order within an
arrival, so that a scan is ABORTED before the report of the same gate end is taken, is the model's reading (log entry 3), and
that the environment is aged after them its choice (log entry 17) (R28, R29, R30, R31, R151, R153, R154). -/
def Obligations.LockMonitorFollowsArrivals : Prop :=
  ∀ (s : State) (i : Instr) (v : BitVec 16) (l : Bool), sampleRow i = some (v, l) → s.resetLow = false →
    s.samplePort.length = 7 →
    ∃ t : State, exec i s = .next t ∧
      (l = true → s.lock.state = .unlocked → t.lock = { state := .settling, settle := 0 }) ∧
      (l = true → s.lock.state = .settling → s.lock.settle + 1 < 2 ^ (16 + s.params.lockSettle) →
        t.lock = { state := .settling, settle := s.lock.settle + 1 }) ∧
      (l = true → s.lock.state = .settling → 2 ^ (16 + s.params.lockSettle) ≤ s.lock.settle + 1 →
        t.lock = { state := .locked, settle := 0 }) ∧
      (l = true → s.lock.state = .locked → t.lock = s.lock) ∧
      (l = false → t.lock = { state := .unlocked, settle := 0 }) ∧
      (l = false → s.lock.state = .locked → t.flagPending .laserUnlocked = true) ∧
      (l = false → s.lock.state = .locked → s.params.lockOverride = false → s.due = .nothing →
        ∀ d, s.openScan = some d →
          t.scan.state = .aborted ∧ t.scan.descriptor = some d ∧ t.flagPending .scanEnded = true ∧
          (t.scan.endCause = some .laserUnlock ∨ t.scan.endCause = some .axisBroken)) ∧
      (s.due = .nothing → (i ≠ .gateEnd v l ∨ s.motion.gateCounter + 1 ≠ s.motion.gateLength) →
        ∃ u x : State,
          u = { s with
            samplePort := [], refr := u.refr, gen := u.gen, events := { s.events with pending := u.events.pending } } ∧
          u.refr.nInUse = s.refr.nFormed.getD s.refr.nInUse ∧ u.refr.tracker = s.refr.tracker ∧
          u.refr.env =
            (if s.refr.config.vacuum = s.refr.vacuumInForce then s.refr.env
              else if s.refr.config.vacuum then .fresh else .stale) ∧
          x =
            (if l = false ∧ s.lock.state = .locked ∧ s.params.lockOverride = false then
              endScan .laserUnlock { setChannels t.channels u with lock := t.lock }
            else setChannels t.channels u) ∧
          t.axes = x.axes ∧ t.scan = x.scan ∧ t.slots = x.slots ∧ t.capture = x.capture ∧ t.main = x.main ∧
          t.exc = x.exc)

/-- With the last gate end taken by the Refractivity Unit, an arrival brings the N formed there into use. While FRESH
outside vacuum mode an arrival counts in the age, and the age limit makes the environment STALE and raises ENV_STALE
(ENV_STALE); so does the leaving of vacuum mode. This is said of the arrivals that end no gate, and of the arrival that ends
one, under the row GATE_END, at which no update is applied; under another row the unit counts that arrival when it takes
the gate end (the model's reading, log entries 2 and 9) (R34, R41). -/
def Obligations.ArrivalsBringNIntoUseAndAgeIt : Prop :=
  (∀ (s : State) (i : Instr) (v : BitVec 16) (l : Bool), sampleRow i = some (v, l) → s.resetLow = false →
    s.samplePort.length = 7 → s.due.refractivity = false →
    ∃ t : State, exec i s = .next t ∧ t.refr.nInUse = s.refr.nFormed.getD s.refr.nInUse ∧
      t.refr.vacuumInForce = s.refr.config.vacuum) ∧
  (∀ (s : State) (i : Instr) (v : BitVec 16) (l : Bool), s.resetLow = false → s.samplePort.length = 7 →
    s.due.refractivity = false → s.refr.config.vacuum = false →
    ((sampleRow i = some (v, l) ∧ s.motion.gateCounter + 1 ≠ s.motion.gateLength) ∨
      (i = .gateEnd v l ∧ s.motion.gateCounter + 1 = s.motion.gateLength ∧ s.refr.pending = none ∧
        s.refr.held = none)) →
    ∃ t : State, exec i s = .next t ∧
      (s.refr.vacuumInForce = false → s.refr.env = .fresh → s.params.envStaleLimit * 65536 ≤ s.refr.age + 1 →
        t.refr.env = .stale ∧ t.refr.age = s.refr.age + 1 ∧ t.flagPending .envStale = true) ∧
      (s.refr.vacuumInForce = false → s.refr.env = .fresh → s.refr.age + 1 < s.params.envStaleLimit * 65536 →
        t.refr.env = .fresh ∧ t.refr.age = s.refr.age + 1) ∧
      (s.refr.vacuumInForce = false → s.refr.env = .stale →
        t.refr.env = .stale ∧ t.refr.age = s.refr.age ∧
        t.flagPending .envStale = s.flagPending .envStale) ∧
      (s.refr.vacuumInForce = true → t.refr.env = .stale ∧ t.flagPending .envStale = true)) ∧
  ∀ (s : State) (i : Instr) (v : BitVec 16) (l : Bool), sampleRow i = some (v, l) → i ≠ .gateEnd v l →
    s.resetLow = false → s.samplePort.length = 7 → s.due.refractivity = false → s.refr.config.vacuum = false →
    s.motion.gateCounter + 1 = s.motion.gateLength → s.refr.vacuumInForce = false →
    ∃ t : State, exec i s = .next t ∧ t.refr.env = s.refr.env ∧ t.refr.age = s.refr.age ∧ t.due.refractivity = true

/-- CONFIGURATION_ADOPTED: the Refractivity Unit takes a gate end. The stored tracker channel, length, vacuum mode, λ and
tracker K come into force; the N in use stays until the next arrival. A change while FOLLOWING makes the N in use the
base, so the N formed does not step, and the tracker re-follows at once where its channel is TRACKING. A change while ABSENT
or FROZEN keeps the base; a change of the channel itself makes the tracker FROZEN or ABSENT by the new designation before it
may re-follow. Vacuum mode forms 0 and discards the updates that wait. Leaving it forms the base as it was kept, with the
tracker by its designation, and the environment stays as it is until the next arrival (R35, R36, R37, R42). -/
def Obligations.GateEndAdoptsTheConfiguration : Prop :=
  ∀ s : State, s.resetLow = false → s.due.refractivity = true →
    ∃ t : State, exec .configurationAdopted s = .next t ∧
      t = { s with
        refr := t.refr, due := { s.due with refractivity := false }
        events := { s.events with pending := t.events.pending } } ∧
      t.refr.nInUse = s.refr.nInUse ∧ t.refr.vacuumInForce = s.refr.vacuumInForce ∧
      t.refr.config =
        { tracker := s.params.trackerCh, length := s.params.trackerLen, lambda := s.params.lambda
          pathK := s.params.trackerCh.map fun c => (s.params.channel.get c).pathK, vacuum := s.params.vacuum } ∧
      (s.refr.tracker = .following → t.refr.config ≠ s.refr.config → s.refr.config.vacuum = false →
        s.params.vacuum = false → s.refr.pending = none → s.refr.held = none → IsRefractivity s.refr.nInUse →
        0 < s.params.trackerLen → (∀ c, 0 < (s.params.channel.get c).pathK) →
        t.refr.nBase = s.refr.nInUse ∧ t.refr.nFormed = some s.refr.nInUse ∧
        (s.params.trackerCh = none → t.refr.tracker = .absent) ∧
        ∀ c, s.params.trackerCh = some c →
          ((s.channels.get c).state = .tracking →
            t.refr.tracker = .following ∧ t.refr.tBase = (s.channels.get c).count) ∧
          ((s.channels.get c).state ≠ .tracking → t.refr.tracker = .frozen)) ∧
      (s.refr.config.vacuum = false → s.params.vacuum = true →
        t.refr.nFormed = some 0 ∧ t.refr.pending = none ∧ t.refr.held = none ∧
        t.refr.tracker = (if s.params.trackerCh = none then .absent else .frozen) ∧
        t.refr.nBase = (if s.refr.tracker = .following then s.refr.nInUse else s.refr.nBase) ∧
        t.refr.result =
          (if s.refr.pending.isSome = true ∨ s.refr.held.isSome = true then .ignored else s.refr.result)) ∧
      (s.refr.config.vacuum = true → s.params.vacuum = true →
        t.refr.nFormed = some 0 ∧ t.refr.nBase = s.refr.nBase ∧ t.refr.tBase = s.refr.tBase ∧
        t.refr.tracker = (if s.params.trackerCh = none then .absent else .frozen)) ∧
      (s.params.vacuum = false → s.refr.pending = none → s.refr.held = none → 0 < s.params.trackerLen →
        (∀ c, 0 < (s.params.channel.get c).pathK) →
        (s.refr.config.vacuum = true ∨ s.refr.tracker ≠ .following →
          t.refr.nBase = s.refr.nBase ∧ t.refr.nFormed = some (clampTo 0 4000000 s.refr.nBase)) ∧
        (s.refr.config.vacuum = true ∨ (s.refr.tracker ≠ .following ∧ s.refr.config.tracker ≠ s.params.trackerCh) →
          (s.params.trackerCh = none → t.refr.tracker = .absent) ∧
          ∀ c, s.params.trackerCh = some c →
            ((s.channels.get c).state = .tracking →
              t.refr.tracker = .following ∧ t.refr.tBase = (s.channels.get c).count) ∧
            ((s.channels.get c).state ≠ .tracking → t.refr.tracker = .frozen ∧ t.refr.tBase = s.refr.tBase)) ∧
        (s.refr.config.vacuum = false → s.refr.config.tracker = s.params.trackerCh →
          (s.refr.tracker = .absent → t.refr.tracker = .absent) ∧
          (s.refr.tracker = .frozen → ∀ c, s.params.trackerCh = some c →
            ((s.channels.get c).state = .tracking →
              t.refr.tracker = .following ∧ t.refr.tBase = (s.channels.get c).count) ∧
            ((s.channels.get c).state ≠ .tracking → t.refr.tracker = .frozen ∧ t.refr.tBase = s.refr.tBase))) ∧
        (s.refr.vacuumInForce = true → t.refr.env = s.refr.env ∧ t.refr.age = s.refr.age))

/-- The N formed at a gate end with the configuration unchanged and no update waiting: the base plus the rounded tracker
term, clamped, while the tracker channel tracks; the base, clamped, while ABSENT or FROZEN; the N in use at a freeze
(R34, R37). The arrival that ended the gate is counted in the environment age here, as no update is applied: the limit makes
the environment STALE and raises ENV_STALE (R41; that it is counted in this step is the model's reading, log entry 9). -/
def Obligations.GateEndFormsN : Prop :=
  ∀ s : State, s.resetLow = false → s.due.refractivity = true → s.refr.config = s.params.refrConfig →
    s.params.vacuum = false → s.refr.pending = none → s.refr.held = none →
    ∃ t : State, exec .configurationAdopted s = .next t ∧ t.refr.pending = none ∧ t.refr.held = none ∧
      (∀ c : Fin 4, s.params.trackerCh = some c → s.refr.tracker = .following →
        (s.channels.get c).state = .tracking → 0 < s.params.trackerLen → 0 < (s.params.channel.get c).pathK →
        t.refr.tracker = .following ∧ t.refr.nBase = s.refr.nBase ∧ t.refr.tBase = s.refr.tBase ∧
        ∃ term : Int,
          IsRounded (((s.channels.get c).count - s.refr.tBase) * s.params.lambda * 10)
            (1024 * (s.params.channel.get c).pathK * s.params.trackerLen) term ∧
          t.refr.nFormed = some (clampTo 0 4000000 (s.refr.nBase + term))) ∧
      (∀ c : Fin 4, s.params.trackerCh = some c → s.refr.tracker = .following →
        (s.channels.get c).state ≠ .tracking →
        t.refr.tracker = .frozen ∧ t.refr.nBase = s.refr.nInUse ∧
        t.refr.nFormed = some (clampTo 0 4000000 s.refr.nInUse)) ∧
      (∀ c : Fin 4, s.params.trackerCh = some c → s.refr.tracker = .frozen → (s.channels.get c).state = .tracking →
        0 < s.params.trackerLen → 0 < (s.params.channel.get c).pathK →
        t.refr.tracker = .following ∧ t.refr.tBase = (s.channels.get c).count ∧ t.refr.nBase = s.refr.nBase ∧
        t.refr.nFormed = some (clampTo 0 4000000 s.refr.nBase)) ∧
      (∀ c : Fin 4, s.params.trackerCh = some c → s.refr.tracker = .frozen → (s.channels.get c).state ≠ .tracking →
        t.refr.tracker = .frozen ∧ t.refr.nBase = s.refr.nBase ∧
        t.refr.nFormed = some (clampTo 0 4000000 s.refr.nBase)) ∧
      (s.refr.tracker = .absent → t.refr.tracker = .absent ∧ t.refr.nFormed = some (clampTo 0 4000000 s.refr.nBase)) ∧
      (s.refr.vacuumInForce = false → s.refr.env = .fresh → s.params.envStaleLimit * 65536 ≤ s.refr.age + 1 →
        t.refr.env = .stale ∧ t.refr.age = s.refr.age + 1 ∧ t.flagPending .envStale = true) ∧
      (s.refr.vacuumInForce = false → s.refr.env = .fresh → s.refr.age + 1 < s.params.envStaleLimit * 65536 →
        t.refr.env = .fresh ∧ t.refr.age = s.refr.age + 1 ∧ t.events = s.events) ∧
      (s.refr.env = .stale → t.refr.env = .stale ∧ t.refr.age = s.refr.age ∧ t.events = s.events)

/-- ENV_UPDATE_APPLIED and HELD_UPDATE_PROMOTED: at a gate end outside vacuum mode, with the configuration unchanged, a
pending update is held when a scan is open and its step from the N without it exceeds ENV_STEP_MAX, and else applied: base
and N formed are the update, age 0, FRESH, APPLIED, and no held update left. With no scan open a held update is promoted
and applied, unless a newer one is pending; with one open it stays (R39, R40). -/
def Obligations.UpdatesAreAppliedHeldOrPromoted : Prop :=
  ∀ s : State, s.resetLow = false → s.due.refractivity = true → s.refr.config = s.params.refrConfig →
    s.params.vacuum = false → 0 < s.params.trackerLen → (∀ c, 0 < (s.params.channel.get c).pathK) →
    (∀ u : Int, s.refr.pending = some u → IsRefractivity u →
      ∃ (t : State) (without : Int), exec .envUpdateApplied s = .next t ∧ t.refr.pending = none ∧
        without = formN (trackerCount s) (s.refr.moveTracker (trackerTracking s) (trackerCount s)) ∧
        (s.scanIsOpen = true → s.params.envStepMax < (u - without).natAbs →
          t.refr.held = some u ∧ t.refr.result = .held ∧ t.refr.nFormed = some without ∧
          (s.refr.tracker ≠ .following → t.refr.nBase = s.refr.nBase)) ∧
        ((s.scanIsOpen = false ∨ ((u - without).natAbs : Int) ≤ s.params.envStepMax) →
          t.refr.held = none ∧ t.refr.result = .applied ∧ t.refr.nFormed = some u ∧ t.refr.nBase = u ∧ t.refr.age = 0 ∧
          t.refr.env = .fresh ∧ (t.refr.tracker = .following → t.refr.tBase = trackerCount s) ∧
          t.events = s.events)) ∧
    (∀ h : Int, s.refr.held = some h → IsRefractivity h → s.refr.pending = none →
      ∃ t : State, exec .heldUpdatePromoted s = .next t ∧ t.refr.pending = none ∧
        (s.scanIsOpen = false →
          t.refr.held = none ∧ t.refr.nBase = h ∧ t.refr.nFormed = some h ∧ t.refr.result = .applied ∧
          t.refr.env = .fresh ∧ t.refr.age = 0) ∧
        (s.scanIsOpen = true → t.refr.held = some h ∧ t.refr.result = s.refr.result)) ∧
    ∀ h u : Int, s.refr.held = some h → s.refr.pending = some u → IsRefractivity u → s.scanIsOpen = false →
      ∃ t : State, exec .heldUpdatePromoted s = .next t ∧ t.refr.held = none ∧ t.refr.pending = none ∧
        t.refr.nBase = u ∧ t.refr.nFormed = some u ∧ t.refr.result = .applied

/-- The end of an environment write by its bytes: pointer 0x00 with four data bytes is an update (IGNORED in vacuum mode,
clamped to 4,000,000 and CLAMPED above it, else PENDING); pointer 0x08 alone changes nothing; anything else is MALFORMED,
or IGNORED in vacuum mode. The assembler is IDLE after it, and nothing else changes (R38, R188). -/
def Obligations.EnvironmentWritesEnd : Prop :=
  (∀ (s : State) (b3 b2 b1 b0 : Byte), s.resetLow = false → s.env.message = some [0x00, b3, b2, b1, b0] →
    exec .envUpdate s =
      .next { s with
        env := { s.env with message := none }
        refr :=
          if s.refr.vacuumInForce then { s.refr with result := .ignored }
          else if 4000000 < ((b3.toNat * 256 + b2.toNat) * 256 + b1.toNat) * 256 + b0.toNat then
            { s.refr with pending := some 4000000, result := .clamped }
          else
            { s.refr with
              pending := some (((b3.toNat * 256 + b2.toNat) * 256 + b1.toNat) * 256 + b0.toNat : Nat)
              result := .pending } }) ∧
  (∀ (s : State) (m : List Byte), s.resetLow = false → s.env.message = some m → m ≠ [0x08] →
    (∀ b3 b2 b1 b0 : Byte, m ≠ [0x00, b3, b2, b1, b0]) →
    exec .malformedUpdate s =
      .next { s with
        env := { s.env with message := none }
        refr := { s.refr with result := if s.refr.vacuumInForce then .ignored else .malformed } }) ∧
  ∀ s : State, s.resetLow = false → s.env.message = some [0x08] →
    exec .pointerSet s = .next { s with env := { s.env with message := none } }

/-- ENV_WRITE_BEGIN and STATUS_BLOCK_READ: a START first ends a write in progress as its row would. Then, at the address
that ADDR selects, a write collects its bytes and a read returns result, environment state and N in use, and 0x00 after
them; at another address nothing follows. The part acknowledges its own address and every byte written to it, and nothing
else: no byte that it sends itself, and nothing at another address (R188, R189). -/
def Obligations.EnvironmentStartsAreTaken : Prop :=
  ∀ (s : State) (a : BitVec 7) (pin : Bool) (bytes : List Byte), s.resetLow = false →
    (s.env.message = none →
      (a = (if pin then 0x4F else 0x4E) →
        exec (.envWriteBegin a pin bytes) s =
          .next { s with env := { s.env with message := some bytes, acknowledged := 1 + bytes.length } } ∧
        exec (.statusBlockRead a pin) s =
          .next { s with
            env := { s.env with
              out := be 1 s.refr.result.number ++ be 1 s.refr.env.number ++ be 4 s.refr.nInUse
              acknowledged := 1 } } ∧
        ∃ t : State, exec (.statusBlockRead a pin) s = .next t ∧ t.envRead 0 = BitVec.ofInt 8 s.refr.result.number ∧
          t.envRead 1 = BitVec.ofInt 8 s.refr.env.number ∧
          (∀ (k : Nat) (b : Byte), (be 4 s.refr.nInUse)[k]? = some b → t.envRead (2 + k) = b) ∧
          ∀ k, 6 ≤ k → t.envRead k = 0x00) ∧
      (a ≠ (if pin then 0x4F else 0x4E) →
        exec (.envWriteBegin a pin bytes) s = .next { s with env := { s.env with acknowledged := 0 } } ∧
        exec (.statusBlockRead a pin) s = .next { s with env := { s.env with acknowledged := 0 } })) ∧
    (∃ t u : State, exec (.envWriteBegin a pin bytes) s = .next t ∧ exec (.statusBlockRead a pin) s = .next u ∧
      ∀ k,
        (t.envAck k = true ↔ a = (if pin then 0x4F else 0x4E) ∧ k ≤ bytes.length) ∧
        (u.envAck k = true ↔ a = (if pin then 0x4F else 0x4E) ∧ k = 0)) ∧
    ∀ m, s.env.message = some m → ∃ (e : Instr) (u : State),
      (e = .envUpdate ∨ e = .malformedUpdate ∨ e = .pointerSet) ∧ exec e s = .next u ∧ u.env.message = none ∧
      u.resetLow = false ∧
      exec (.envWriteBegin a pin bytes) s = exec (.envWriteBegin a pin bytes) u ∧
      exec (.statusBlockRead a pin) s = exec (.statusBlockRead a pin) u

/-! ## Gates -/

/-- The arrival that brings the gate counter to G is the gate end: the counter returns to 0, the gate number advances, and
the stored GATE_SEL gives the next length; any other arrival counts one. The report carries the closing gate's number and
length, T_NS, each axis's gate-end value, and the motion results as they stood before the adoption, the steady indication
among them. GATE_LENGTH_ADOPTED is the case of a new length: reference velocities, steady counters and steady indications
are cleared, and the previous sums of this gate end are kept (R89, R90, R92, R93, R99). That GATE_END also has every block
take the gate end, and that the other rows leave it to be taken, is the model's choice (log entry 2); the law of the axes
is asked there because a datum of the same gate end is then applied before the axes are looked at. -/
def Obligations.GateEndsCloseTheGate : Prop :=
  ∀ (s : State) (i : Instr) (v : BitVec 16) (l : Bool), sampleRow i = some (v, l) → s.resetLow = false →
    s.samplePort.length = 7 →
    (s.motion.gateCounter + 1 ≠ s.motion.gateLength →
      ∃ t : State, exec i s = .next t ∧ t.motion = { s.motion with gateCounter := s.motion.gateCounter + 1 } ∧
        t.due = .nothing) ∧
    (s.motion.gateCounter + 1 = s.motion.gateLength → (i = .gateEnd v l → AxisLaw s) →
      ∃ (t : State) (m : Four AxisMotion), exec i s = .next t ∧ t.motion.gateCounter = 0 ∧
        t.motion.gateNumber = s.motion.gateNumber + 1 ∧ t.motion.gateLength = 256 * 2 ^ s.params.gateSel ∧
        (∀ j,
          (m.get j).prevSum =
            (if (t.axes.get j).state = .undefined then none
              else if t.allTracking j then some (geometricSum t j) else none) ∧
          ((m.get j).steady = true ↔
            (t.axes.get j).state ≠ .undefined ∧ s.params.stableGates ≤ (m.get j).steadyCount) ∧
          t.motion.axes.get j =
            if 256 * 2 ^ s.params.gateSel = s.motion.gateLength then m.get j
            else { m.get j with reference := none, steadyCount := 0, steady := false }) ∧
        (i = .gateEnd v l → t.due = .nothing) ∧
        (i ≠ .gateEnd v l →
          ∃ r : GateReport,
            t.due = { refractivity := true, capture := some r, scan := some r, datum := true, hold := true, test := true } ∧
            r.gate = s.motion.gateNumber ∧ r.length = s.motion.gateLength ∧ r.tNs = s.params.tNs ∧
            ∀ j, (r.axes.get j).defined = ((t.axes.get j).state != .undefined) ∧ (r.axes.get j).value = axisValue t j ∧
              (r.axes.get j).clamped = axisClamped t j ∧ (r.axes.get j).velocity = (m.get j).velocity ∧
              (r.axes.get j).reported = (m.get j).reported ∧ (r.axes.get j).valid = (m.get j).valid ∧
              (r.axes.get j).sign = (m.get j).sign ∧ (r.axes.get j).fast = (m.get j).fast ∧
              (r.axes.get j).steady = (m.get j).steady))

/-- What the Motion Monitor forms for each axis at a gate end, under every row, before the adoption of a new length clears
the reference velocity, the steady counter and the steady indication: nothing for an UNDEFINED axis; else the geometric sum
where every weighted channel is TRACKING, the velocity from the previous sum where both ends track, its conversion truncated
toward zero over the gate that closes, its sign, the steady test and the fast test (R90, R93, R94, R96, R97, R98). For
GATE_END the law of the axes is asked, as a datum of the same gate end is then applied before the axes are looked at. -/
def Obligations.GateEndsMeasureEachAxis : Prop :=
  ∀ (s : State) (i : Instr) (v : BitVec 16) (l : Bool), sampleRow i = some (v, l) →
    s.resetLow = false → s.samplePort.length = 7 → s.motion.gateCounter + 1 = s.motion.gateLength →
    (i = .gateEnd v l → AxisLaw s) →
    ∃ (t : State) (m : Four AxisMotion), exec i s = .next t ∧ ∀ j,
      t.motion.axes.get j =
        (if 256 * 2 ^ s.params.gateSel = s.motion.gateLength then m.get j
          else { m.get j with reference := none, steadyCount := 0, steady := false }) ∧
      (∀ r, t.due.capture = some r →
        (r.axes.get j).velocity = (m.get j).velocity ∧ (r.axes.get j).reported = (m.get j).reported ∧
        (r.axes.get j).valid = (m.get j).valid ∧ (r.axes.get j).sign = (m.get j).sign ∧
        (r.axes.get j).steady = (m.get j).steady ∧ (r.axes.get j).fast = (m.get j).fast) ∧
      ((t.axes.get j).state = .undefined →
        m.get j =
          { prevSum := none, velocity := 0, valid := false, reported := 0, sign := .none, reference := none
            steadyCount := 0, steady := false, fast := false }) ∧
      ((t.axes.get j).state ≠ .undefined →
        (m.get j).prevSum = (if t.allTracking j then some (geometricSum t j) else none) ∧
        (((s.motion.axes.get j).prevSum = none ∨ t.allTracking j = false) →
          (m.get j).valid = false ∧ (m.get j).velocity = 0 ∧
          (m.get j).reported = 0 ∧ (m.get j).sign = .none ∧
          (m.get j).fast = false ∧ (m.get j).reference = none ∧
          (m.get j).steadyCount = 0) ∧
        (∀ prev : Int, (s.motion.axes.get j).prevSum = some prev → t.allTracking j = true →
          ∃ vel : Int, vel = clampTo (-2147483647) 2147483647 (geometricSum t j - prev) ∧
            (m.get j).valid = true ∧ (m.get j).velocity = vel ∧
            (m.get j).reported = (vel * 1000).tdiv (s.motion.gateLength * s.params.tNs) ∧
            (0 < vel → (m.get j).sign = .positive) ∧ (vel < 0 → (m.get j).sign = .negative) ∧
            (vel = 0 → (m.get j).sign = .zero) ∧
            ((m.get j).fast = true ↔ s.params.vMax < |(m.get j).reported|) ∧
            ((s.motion.axes.get j).reference = none →
              (m.get j).reference = some vel ∧ (m.get j).steadyCount = 0) ∧
            ∀ ref : Int, (s.motion.axes.get j).reference = some ref →
              (|vel - ref| ≤ s.params.hyst →
                (m.get j).reference = some ref ∧
                (m.get j).steadyCount = min 255 ((s.motion.axes.get j).steadyCount + 1)) ∧
              (s.params.hyst < |vel - ref| →
                (m.get j).reference = some vel ∧ (m.get j).steadyCount = 0)) ∧
        ((m.get j).steady = true ↔ s.params.stableGates ≤ (m.get j).steadyCount))

/-! ## Parameters -/

/-- SET PARAM of a parameter without behaviour of its own, and GET PARAM of any: every number of the table names its
parameter, with the numbers, ranges and codes as the table has them, and an enumerated parameter is reported by its code; an
unknown number and an invalid code are BAD_ARGUMENT; a parameter that enters the arithmetic is refused
SCAN_OPEN while a scan is open; else the value is stored, clamped to its range where it is numeric, and every other
parameter and everything else stays (R158, R181). -/
def Obligations.ParametersAreWrittenAndRead : Prop :=
  (∀ q, paramOfNumber (paramNumber q) = some q ∧ paramNumber q = tableNumber q) ∧
  (∀ p : Params,
    getParam p .lockOverride = (if p.lockOverride then 1 else 0) ∧ getParam p .vacuum = (if p.vacuum then 1 else 0) ∧
    getParam p .lineOutside = (if p.keepOutside then 1 else 0) ∧
    getParam p (.lineEdge .line0) = edgeNumber p.lineEdge0 ∧ getParam p (.lineEdge .line1) = edgeNumber p.lineEdge1 ∧
    (p.trackerCh = none → getParam p .trackerCh = 255) ∧
    (∀ c, p.trackerCh = some c → getParam p .trackerCh = (c : Nat)) ∧
    ∀ i, (p.servoMap.get i = none → getParam p (.servoMap i) = 4) ∧
      ∀ j, p.servoMap.get i = some j → getParam p (.servoMap i) = (j : Nat)) ∧
  (∀ (s : State) (number : BitVec 16) (value : BitVec 32), s.Waits → (∀ q, tableNumber q ≠ number.toNat) →
    exec (.setParam number value) s = .next (s.answer 0x05 6 [0x10, 0, 0, 0, 0]) ∧
    exec (.getParam number) s = .next (s.answer 0x06 2 [0x10, 0, 0, 0, 0])) ∧
  ∀ (s : State) (number : BitVec 16) (value : BitVec 32) (q : Param), s.Waits → number.toNat = tableNumber q →
    exec (.getParam number) s = .next (s.answer 0x06 2 (0x00 :: be 4 (getParam s.params q))) ∧
    (hasOwnRow q = false →
      (∀ codes, tableKind q = .codes codes → value.toInt ∉ codes →
        exec (.setParam number value) s = .next (s.answer 0x05 6 (0x10 :: be 4 (getParam s.params q)))) ∧
      (∀ codes, tableKind q = .codes codes → value.toInt ∈ codes → s.scanIsOpen = true → inArithmetic q = true →
        exec (.setParam number value) s = .next (s.answer 0x05 6 (0x12 :: be 4 (getParam s.params q)))) ∧
      (∀ lo hi, tableKind q = .numeric lo hi → s.scanIsOpen = true → inArithmetic q = true →
        exec (.setParam number value) s = .next (s.answer 0x05 6 (0x12 :: be 4 (getParam s.params q)))) ∧
      ((s.scanIsOpen = false ∨ inArithmetic q = false) → ∀ stored : Int,
        ((∃ codes, tableKind q = .codes codes ∧ value.toInt ∈ codes ∧ stored = value.toInt) ∨
          (∃ lo hi, tableKind q = .numeric lo hi ∧ stored = clampTo lo hi value.toInt)) →
        ∃ p : Params, getParam p q = stored ∧ (∀ q', q' ≠ q → getParam p q' = getParam s.params q') ∧
          exec (.setParam number value) s =
            .next (({ s with params := p }).answer 0x05 6
              ((if stored = value.toInt then 0x00 else 0x01) :: be 4 stored))))

/-- A weight write: refused SCAN_OPEN while a scan is open, CONFLICT for a nonzero value on the tracker channel; else
stored, clamped. A value already held changes nothing. A change makes its axis UNDEFINED when all its weights are now 0
and UNREFERENCED otherwise, drops the previous geometric sum, keeps offset, N_dat, epoch and datum break numbers, and ends
an ARMED slot of an axis made UNDEFINED with AXIS_UNDEFINED and DATUM_FAILED (R67, R68, R95). -/
def Obligations.WeightWritesRedefineTheAxis : Prop :=
  ∀ (s : State) (axis channel : BitVec 2) (value : BitVec 32) (j c : Fin 4) (v : Int) (st : Byte), s.Waits →
    j = indexOf axis → c = indexOf channel → v = clampTo (-131072) 131071 value.toInt →
    st = (if v = value.toInt then 0x00 else 0x01) →
    (s.scanIsOpen = true →
      exec (.setParamWeight axis channel value) s =
        .next (s.answer 0x05 6 (0x12 :: be 4 ((s.params.weight.get j).get c)))) ∧
    (s.scanIsOpen = false → v ≠ 0 → s.params.trackerCh = some c →
      exec (.setParamWeight axis channel value) s =
        .next (s.answer 0x05 6 (0x1F :: be 4 ((s.params.weight.get j).get c)))) ∧
    (s.scanIsOpen = false → (v = 0 ∨ s.params.trackerCh ≠ some c) →
      (v = (s.params.weight.get j).get c →
        exec (.setParamWeight axis channel value) s = .next (s.answer 0x05 6 (st :: be 4 v))) ∧
      (v ≠ (s.params.weight.get j).get c →
        ∀ (p : Params) (undef : Bool),
          p = { s.params with weight := s.params.weight.set j ((s.params.weight.get j).set c v) } →
          (undef = true ↔ ∀ k, (p.weight.get j).get k = 0) →
          exec (.setParamWeight axis channel value) s =
            .next ((raiseIf (undef && (s.slots.get j).state == .armed) .datumFailed
              { s with
                params := p
                axes := s.axes.set j
                  { s.axes.get j with state := if undef then AxisState.undefined else AxisState.unreferenced }
                motion :=
                  { s.motion with axes := s.motion.axes.set j { s.motion.axes.get j with prevSum := none } }
                slots :=
                  if undef && (s.slots.get j).state == .armed then
                    s.slots.set j
                      { s.slots.get j with
                        state := SlotState.idle, owner := none, outcome := DatumOutcome.axisUndefined }
                  else s.slots }).answer 0x05 6 (st :: be 4 v))))

/-- Writes of LAMBDA, PATH_K and DEAD_PATH: refused SCAN_OPEN while a scan is open, and BAD_ARGUMENT for a K other than 2,
4, 8; else stored, clamped. A change makes UNREFERENCED every defined axis (LAMBDA) or every axis that weights the channel,
which keeps the rest of its state, and a change of λ or K drops those axes' previous geometric sums; a value already held
changes nothing (R50, R69, R95). -/
def Obligations.OpticsWritesUnreferenceAxes : Prop :=
  (∀ (s : State) (value : BitVec 32) (v : Int), s.Waits → v = clampTo 400000000 1100000000 value.toInt →
    (s.scanIsOpen = true →
      exec (.setParamLambda value) s = .next (s.answer 0x05 6 (0x12 :: be 4 s.params.lambda))) ∧
    (s.scanIsOpen = false → v = s.params.lambda →
      exec (.setParamLambda value) s = .next (s.answer 0x05 6 ((if v = value.toInt then 0x00 else 0x01) :: be 4 v))) ∧
    (s.scanIsOpen = false → v ≠ s.params.lambda → ∃ t : State,
      exec (.setParamLambda value) s = .next (t.answer 0x05 6 ((if v = value.toInt then 0x00 else 0x01) :: be 4 v)) ∧
      t = { s with params := { s.params with lambda := v }, axes := t.axes, motion := { s.motion with axes := t.motion.axes } } ∧
      (∀ j, t.axes.get j =
        if (s.axes.get j).state = .undefined then s.axes.get j else { s.axes.get j with state := .unreferenced }) ∧
      ∀ j, t.motion.axes.get j = { s.motion.axes.get j with prevSum := none })) ∧
  (∀ (s : State) (channel : BitVec 2) (value : BitVec 32) (c : Fin 4), s.Waits → c = indexOf channel →
    (¬ (value.toInt = 2 ∨ value.toInt = 4 ∨ value.toInt = 8) →
      exec (.setParamPathK channel value) s =
        .next (s.answer 0x05 6 (0x10 :: be 4 (s.params.channel.get c).pathK))) ∧
    ((value.toInt = 2 ∨ value.toInt = 4 ∨ value.toInt = 8) →
      (s.scanIsOpen = true →
        exec (.setParamPathK channel value) s =
          .next (s.answer 0x05 6 (0x12 :: be 4 (s.params.channel.get c).pathK))) ∧
      (s.scanIsOpen = false → value.toInt = (s.params.channel.get c).pathK →
        exec (.setParamPathK channel value) s = .next (s.answer 0x05 6 (0x00 :: be 4 value.toInt))) ∧
      (s.scanIsOpen = false → value.toInt ≠ (s.params.channel.get c).pathK → ∃ t : State,
        exec (.setParamPathK channel value) s = .next (t.answer 0x05 6 (0x00 :: be 4 value.toInt)) ∧
        t = { s with
          params := s.params.updateChannel c fun q => { q with pathK := value.toInt }
          axes := t.axes, motion := { s.motion with axes := t.motion.axes } } ∧
        (∀ j, t.axes.get j =
          if weighted s.params j c = false ∨ (s.axes.get j).state = .undefined then s.axes.get j
          else { s.axes.get j with state := .unreferenced }) ∧
        ∀ j, t.motion.axes.get j =
          if weighted s.params j c then { s.motion.axes.get j with prevSum := none } else s.motion.axes.get j))) ∧
  ∀ (s : State) (channel : BitVec 2) (value : BitVec 32) (c : Fin 4) (v : Int), s.Waits → c = indexOf channel →
    v = clampTo 0 2000000 value.toInt →
    (s.scanIsOpen = true →
      exec (.setParamDeadPath channel value) s =
        .next (s.answer 0x05 6 (0x12 :: be 4 (s.params.channel.get c).deadPath))) ∧
    (s.scanIsOpen = false → v = (s.params.channel.get c).deadPath →
      exec (.setParamDeadPath channel value) s =
        .next (s.answer 0x05 6 ((if v = value.toInt then 0x00 else 0x01) :: be 4 v))) ∧
    (s.scanIsOpen = false → v ≠ (s.params.channel.get c).deadPath → ∃ t : State,
      exec (.setParamDeadPath channel value) s =
        .next (t.answer 0x05 6 ((if v = value.toInt then 0x00 else 0x01) :: be 4 v)) ∧
      t = { s with params := s.params.updateChannel c fun q => { q with deadPath := v }, axes := t.axes } ∧
      ∀ j, t.axes.get j =
        if weighted s.params j c = false ∨ (s.axes.get j).state = .undefined then s.axes.get j
        else { s.axes.get j with state := .unreferenced })

/-- Writes of TRACKER_CH and LOCK_OVERRIDE. TRACKER_CH: an invalid code, an open scan, and a channel weighted in some axis
refuse it; NONE is never in conflict; else it is stored and nothing else changes until a gate end. LOCK_OVERRIDE: 0 or 1 is
stored at once in every scan state; a write that takes the effective state out of LOCKED ends an open scan, as every end of a
scan goes, ABORTED with LASER_UNLOCK, and otherwise nothing else changes (R31, R44, R151, R154). -/
def Obligations.TrackerAndOverrideWrites : Prop :=
  (∀ (s : State) (value : BitVec 32), s.Waits →
    (¬ (value.toInt = 255 ∨ (0 ≤ value.toInt ∧ value.toInt ≤ 3)) →
      exec (.setParamTrackerCh value) s =
        .next (s.answer 0x05 6 (0x10 :: be 4 (getParam s.params .trackerCh)))) ∧
    ((value.toInt = 255 ∨ (0 ≤ value.toInt ∧ value.toInt ≤ 3)) → s.scanIsOpen = true →
      exec (.setParamTrackerCh value) s =
        .next (s.answer 0x05 6 (0x12 :: be 4 (getParam s.params .trackerCh)))) ∧
    (value.toInt = 255 → s.scanIsOpen = false →
      exec (.setParamTrackerCh value) s =
        .next (({ s with params := { s.params with trackerCh := none } }).answer 0x05 6 (0x00 :: be 4 255))) ∧
    ∀ c : Fin 4, value.toInt = (c : Nat) → s.scanIsOpen = false →
      ((∃ j, weighted s.params j c = true) →
        exec (.setParamTrackerCh value) s =
          .next (s.answer 0x05 6 (0x1F :: be 4 (getParam s.params .trackerCh)))) ∧
      ((∀ j, weighted s.params j c = false) →
        exec (.setParamTrackerCh value) s =
          .next (({ s with params := { s.params with trackerCh := some c } }).answer 0x05 6
            (0x00 :: be 4 value.toInt)))) ∧
  ∀ (s : State) (value : BitVec 32) (o : Bool), s.Waits →
    (value.toInt ≠ 0 → value.toInt ≠ 1 →
      exec (.setParamLockOverride value) s =
        .next (s.answer 0x05 6 (0x10 :: be 4 (getParam s.params .lockOverride)))) ∧
    (value.toInt = (if o then 1 else 0) →
      ((o = true ∨ s.lock.state = .locked ∨ s.params.lockOverride = false ∨ s.openScan = none) →
        exec (.setParamLockOverride value) s =
          .next (({ s with params := { s.params with lockOverride := o } }).answer 0x05 6
            (0x00 :: be 4 value.toInt))) ∧
      (o = false → s.lock.state ≠ .locked → s.params.lockOverride = true → ∀ d, s.openScan = some d →
        ∃ t : State, exec (.setParamLockOverride value) s = .next (t.answer 0x05 6 (0x00 :: be 4 value.toInt)) ∧
          t = endScan .laserUnlock { s with params := { s.params with lockOverride := false } } ∧
          t.params = { s.params with lockOverride := false } ∧ t.lock = s.lock ∧ t.scan.state = .aborted ∧
          t.scan.endCause = some .laserUnlock ∧ t.scan.descriptor = some d ∧ t.flagPending .scanEnded = true ∧
          t.channels = s.channels ∧ t.axes = s.axes ∧ t.matcher = s.matcher ∧ t.exc = s.exc))

/-- Writes of the ordered pairs. AMP_MIN and AMP_MAX: the value is clamped to 64..32767 and a_min is kept below a_max, a_max
being raised to 65 and a_min lowered where needed; any adjustment is answered CLAMPED (R6). Water marks: each is clamped by
the other as stored, stored at once in every scan state, and the fill is compared with the new marks at once (R163). -/
def Obligations.OrderedPairsStayInOrder : Prop :=
  (∀ c, (Params.default.channel.get c).ampMin = 3000 ∧ (Params.default.channel.get c).ampMax = 30000) ∧
  (∀ (s : State) (channel : BitVec 2) (value : BitVec 32) (c : Fin 4) (q : ChannelParams), s.Waits →
    c = indexOf channel → q = s.params.channel.get c →
    (∀ lo : Int,
      lo = (if clampTo 64 32767 value.toInt < q.ampMax then clampTo 64 32767 value.toInt else q.ampMax - 1) →
      lo < q.ampMax ∧
      exec (.setParamAmpMin channel value) s =
        .next (({ s with params := s.params.updateChannel c fun r => { r with ampMin := lo } }).answer 0x05 6
          ((if lo = value.toInt then 0x00 else 0x01) :: be 4 lo))) ∧
    ∀ hi lo : Int,
      hi = (if clampTo 64 32767 value.toInt = 64 then 65 else clampTo 64 32767 value.toInt) →
      lo = (if q.ampMin < hi then q.ampMin else hi - 1) →
      lo < hi ∧
      exec (.setParamAmpMax channel value) s =
        .next (({ s with params := s.params.updateChannel c fun r => { r with ampMin := lo, ampMax := hi } }).answer 0x05 6
          ((if hi = value.toInt ∧ lo = q.ampMin then 0x00 else 0x01) :: be 4 hi))) ∧
  ∀ (s : State) (value : BitVec 32), s.Waits → s.params.lowWater < s.params.highWater → s.params.highWater ≤ 512 →
    (∀ w : Nat, (w : Int) = clampTo (s.params.lowWater + 1) 512 value.toInt →
      exec (.setParamHighWater value) s =
        .next ((holdCompare { s with params := { s.params with highWater := w } }).answer 0x05 6
          ((if (w : Int) = value.toInt then 0x00 else 0x01) :: be 4 w))) ∧
    ∀ w : Nat, (w : Int) = clampTo 0 (s.params.highWater - 1) value.toInt →
      exec (.setParamLowWater value) s =
        .next ((holdCompare { s with params := { s.params with lowWater := w } }).answer 0x05 6
          ((if (w : Int) = value.toInt then 0x00 else 0x01) :: be 4 w))

/-- Writes of the two halves of SERVO_PRESET: each forms a preset with the other half as stored, the preset is clamped to
±(2^47 − 1), and the answer carries the half as stored (R182). -/
def Obligations.PresetHalvesFormAPreset : Prop :=
  ∀ (s : State) (axis : BitVec 2) (value : BitVec 32) (j : Fin 4), s.Waits → j = indexOf axis →
    (∀ high formed preset : Int, high = clampTo (-32768) 32767 value.toInt →
      formed = high * 4294967296 + s.params.servoPreset.get j % 4294967296 →
      preset = clampTo (-140737488355327) 140737488355327 formed →
      exec (.setParamServoPresetH axis value) s =
        .next (({ s with params := { s.params with servoPreset := s.params.servoPreset.set j preset } }).answer 0x05 6
          ((if high = value.toInt ∧ preset = formed then 0x00 else 0x01) :: be 4 (preset / 4294967296)))) ∧
    ∀ formed preset : Int, formed = s.params.servoPreset.get j / 4294967296 * 4294967296 + value.toNat →
      preset = clampTo (-140737488355327) 140737488355327 formed →
      exec (.setParamServoPresetL axis value) s =
        .next (({ s with params := { s.params with servoPreset := s.params.servoPreset.set j preset } }).answer 0x05 6
          ((if preset = formed then 0x00 else 0x01) :: be 4 (preset % 4294967296)))

/-! ## Axes and datums -/

/-- READ AXIS: the state, epoch, axis value, AXIS_CLAMP, raw value and N in use of the axis on the last sample set, with
the value formed by the chain of chapter 3; 0 for an UNDEFINED axis; nothing changes (R51, R52, R54, R55, R56, R65). -/
def Obligations.ReadAxisReportsThePosition : Prop :=
  ∀ (s : State) (b : Byte), s.Waits →
    (4 ≤ b.toNat → exec (.readAxis b) s = .next (s.answer 0x22 1 (0x10 :: List.replicate 24 0x00))) ∧
    ∀ j : Fin 4, b.toNat = j → ∃ (d p : Fin 4 → Int) (raw exact value : Int),
      ((∀ c, 0 < (s.params.channel.get c).pathK) → 0 ≤ s.refr.nInUse → ∀ c,
        IsRounded ((s.channels.get c).count * s.params.lambda * 10 ^ 7)
          (1024 * (s.params.channel.get c).pathK * (10 ^ 10 + s.refr.nInUse)) (d c) ∧
        (((s.axes.get j).state = .referenced ∨ (s.axes.get j).state = .broken) →
          IsRounded ((s.params.channel.get c).deadPath * (s.refr.nInUse - (s.axes.get j).nDat) * 10 ^ 6)
            (10 ^ 10 + s.refr.nInUse) (p c)) ∧
        ((s.axes.get j).state = .unreferenced → p c = 0)) ∧
      ((s.axes.get j).state = .undefined → raw = 0 ∧ exact = 0) ∧
      ((s.axes.get j).state ≠ .undefined →
        IsRounded
          ((s.params.weight.get j).get 0 * (d 0 - p 0) + (s.params.weight.get j).get 1 * (d 1 - p 1)
            + (s.params.weight.get j).get 2 * (d 2 - p 2) + (s.params.weight.get j).get 3 * (d 3 - p 3)) 65536 raw ∧
        exact = raw + (s.axes.get j).offset) ∧
      value = clampTo (-140737488355327) 140737488355327 exact ∧
      exec (.readAxis b) s =
        .next (s.answer 0x22 1
          (0x00 :: (be 1 (s.axes.get j).state.number ++ be 2 (s.axes.get j).epoch ++ be 8 value
            ++ [if value = exact then 0x00 else 0x01] ++ be 8 raw ++ be 4 s.refr.nInUse)))

/-- Datum requests on both links: AXIS_UNDEFINED, NOT_TRACKING, DATUM_BUSY in this order refuse and change nothing; else the
slot takes the request with age 0 and its last outcome kept, DEFERRED while a scan is open on the axis and ARMED otherwise.
DATUM ARM carries source, edge, preset and timeout, and is BAD_ARGUMENT outside their sets and range; the servo request
carries REF0 or REF1, edge RISING, timeout 0 and the SERVO_PRESET of its axis (R75, R76, R77, R78). -/
def Obligations.DatumRequestsFillTheirSlot : Prop :=
  (∀ (s : State) (a src e : Byte) (preset : BitVec 64) (timeout : BitVec 16), s.Waits →
    (4 ≤ a.toNat ∨ 3 ≤ src.toNat ∨ 2 ≤ e.toNat ∨ preset.toInt < -140737488355327 ∨ 140737488355327 < preset.toInt) →
    exec (.datumArm a src e preset timeout) s = .next (s.answer 0x20 13 [0x10])) ∧
  (∀ (s : State) (a : Byte) (source : DatumSource) (edge : Edge) (preset : BitVec 64) (timeout : BitVec 16) (j : Fin 4)
    (src e : Byte), s.Waits → a.toNat = j → src.toNat = source.number → e.toNat = edgeNumber edge →
    -140737488355327 ≤ preset.toInt → preset.toInt ≤ 140737488355327 →
    ((s.axes.get j).state = .undefined → exec (.datumArm a src e preset timeout) s = .next (s.answer 0x20 13 [0x18])) ∧
    ((s.axes.get j).state ≠ .undefined → s.allTracking j = false →
      exec (.datumArm a src e preset timeout) s = .next (s.answer 0x20 13 [0x19])) ∧
    ((s.axes.get j).state ≠ .undefined → s.allTracking j = true → (s.slots.get j).state ≠ .idle →
      (s.slots.get j).owner ≠ some .measurement →
      exec (.datumArm a src e preset timeout) s = .next (s.answer 0x20 13 [0x1C])) ∧
    ((s.axes.get j).state ≠ .undefined → s.allTracking j = true →
      ((s.slots.get j).state = .idle ∨ (s.slots.get j).owner = some .measurement) →
      exec (.datumArm a src e preset timeout) s =
        .next (({ s with
          slots := s.slots.set j
            { state := if s.scanOpenOn j then SlotState.deferred else SlotState.armed, owner := some Owner.measurement
              source := source, edge := edge, preset := preset.toInt, timeout := timeout.toNat, age := 0
              outcome := (s.slots.get j).outcome } }).answer 0x20 13 [if s.scanOpenOn j then 0x02 else 0x00]))) ∧
  ∀ (s : State) (b : Byte) (j : Fin 4), s.resetLow = false → s.sv.request = some b → b.toNat / 64 = 1 →
    b.toNat / 16 % 4 = j →
    ((s.axes.get j).state = .undefined →
      exec .servoDatumArm s = .next { s with sv := { s.sv with result := .axisUndefined, request := none } }) ∧
    ((s.axes.get j).state ≠ .undefined → s.allTracking j = false →
      exec .servoDatumArm s = .next { s with sv := { s.sv with result := .notTracking, request := none } }) ∧
    ((s.axes.get j).state ≠ .undefined → s.allTracking j = true → (s.slots.get j).state ≠ .idle →
      (s.slots.get j).owner ≠ some .servo →
      exec .servoDatumArm s = .next { s with sv := { s.sv with result := .datumBusy, request := none } }) ∧
    ((s.axes.get j).state ≠ .undefined → s.allTracking j = true →
      ((s.slots.get j).state = .idle ∨ (s.slots.get j).owner = some .servo) →
      exec .servoDatumArm s =
        .next { s with
          slots := s.slots.set j
            { state := if s.scanOpenOn j then SlotState.deferred else SlotState.armed, owner := some Owner.servo
              source := if b.toNat / 8 % 2 = 1 then DatumSource.ref1 else DatumSource.ref0, edge := Edge.rising
              preset := s.params.servoPreset.get j, timeout := 0, age := 0, outcome := (s.slots.get j).outcome }
          sv := { s.sv with
            result := if s.scanOpenOn j then RequestResult.deferred else RequestResult.accepted, request := none } })

/-- DATUM CANCEL on both links: an IDLE slot is taken without effect; the owner's cancel makes the slot IDLE with last
outcome CANCELLED; the other link is refused NOT_OWNER with the slot unchanged; the axis and the flags stay. A servo cancel waits from the
completion of its frame to be taken, and its result appears in the next frame (R79; that it is taken by a step of its own
is the model's choice, log entry 7). -/
def Obligations.DatumCancelsEndOwnRequests : Prop :=
  (∀ (s : State) (b : Byte), s.Waits → 4 ≤ b.toNat → exec (.datumCancel b) s = .next (s.answer 0x21 1 [0x10])) ∧
  (∀ (s : State) (b : Byte) (j : Fin 4), s.Waits → b.toNat = j →
    ((s.slots.get j).state = .idle → exec (.datumCancel b) s = .next (s.answer 0x21 1 [0x00])) ∧
    ((s.slots.get j).state ≠ .idle → (s.slots.get j).owner = some .measurement →
      exec (.datumCancel b) s =
        .next (({ s with
          slots := s.slots.set j
            { s.slots.get j with state := SlotState.idle, owner := none, outcome := DatumOutcome.cancelled } }).answer
          0x21 1 [0x00])) ∧
    ((s.slots.get j).state ≠ .idle → (s.slots.get j).owner ≠ some .measurement →
      exec (.datumCancel b) s = .next (s.answer 0x21 1 [0x1D]))) ∧
  (∀ (s : State) (b : Byte) (f : Frame), s.resetLow = false → s.sv.frame = some f →
    ∃ t, exec (.servoFrameCompletion b) s = .next t ∧ t.sv.request = some b) ∧
  (∀ s : State, s.resetLow = false → s.sv.request = none →
    ∃ t f, exec .syncArrival s = .next t ∧ t.sv.frame = some f ∧ f.result = s.sv.result) ∧
  ∀ (s : State) (b : Byte) (j : Fin 4), s.resetLow = false → s.sv.request = some b → b.toNat / 64 = 2 →
    b.toNat / 16 % 4 = j →
    ((s.slots.get j).state = .idle →
      exec .servoDatumCancel s = .next { s with sv := { s.sv with result := .accepted, request := none } }) ∧
    ((s.slots.get j).state ≠ .idle → (s.slots.get j).owner = some .servo →
      exec .servoDatumCancel s =
        .next { s with
          slots := s.slots.set j
            { s.slots.get j with state := SlotState.idle, owner := none, outcome := DatumOutcome.cancelled }
          sv := { s.sv with result := .accepted, request := none } }) ∧
    ((s.slots.get j).state ≠ .idle → (s.slots.get j).owner ≠ some .servo →
      exec .servoDatumCancel s = .next { s with sv := { s.sv with result := .notOwner, request := none } })

/-- A reference-mark event applies every ARMED slot with that input and edge: with every weighted channel TRACKING the axis
becomes REFERENCED with its next epoch, the N in use, the channels' break numbers, and reads its preset (clamped); the slot
ends DONE, and a DATUM capture of that source, latched with the axis listed, is accepted, in ascending order of the axes;
else the slot ends NOT_TRACKING and the axis stays. Other slots and axes stay (R72, R81, R83, R84, R86, R107). That the
captures of one event latch the axes after all its datums is the model's choice (log entry 4). -/
def Obligations.ReferenceMarksApplyDatums : Prop :=
  ∀ (s : State) (input : RefInput) (edge : Edge), s.resetLow = false → 0 ≤ s.refr.nInUse →
    ∃ t : State, exec (.referenceMarkEvent input edge) s = .next t ∧
      t = { s with
        axes := t.axes, slots := t.slots, capture := t.capture, main := { s.main with lost := t.main.lost }
        events := { s.events with pending := t.events.pending } } ∧
      DatumsApplied
        (fun j => decide ((s.slots.get j).state = .armed ∧ (s.slots.get j).source = sourceOfRef input ∧
          (s.slots.get j).edge = edge)) s t ∧
      t.capture.nextSeq =
        s.capture.nextSeq + BitVec.ofNat 32 (indices.countP fun j =>
          decide ((s.slots.get j).state = .armed ∧ (s.slots.get j).source = sourceOfRef input ∧
            (s.slots.get j).edge = edge ∧ s.allTracking j = true)) ∧
      ∀ j,
        (((s.slots.get j).state = .armed ∧ (s.slots.get j).source = sourceOfRef input ∧ (s.slots.get j).edge = edge) →
          (s.allTracking j = true →
            (t.axes.get j).state = .referenced ∧
            (t.axes.get j).epoch = (if (s.axes.get j).epoch = 65535 then 1 else (s.axes.get j).epoch + 1) ∧
            (t.axes.get j).nDat = s.refr.nInUse ∧
            (∀ c, (t.axes.get j).datumBreaks.get c = (s.channels.get c).breaks) ∧
            axisValue t j = clampTo (-140737488355327) 140737488355327 (s.slots.get j).preset ∧
            t.slots.get j = { s.slots.get j with state := .idle, owner := none, outcome := .done } ∧
            t.flagPending .datumDone = true) ∧
          (s.allTracking j = false →
            t.axes.get j = s.axes.get j ∧
            t.slots.get j = { s.slots.get j with state := .idle, owner := none, outcome := .notTracking } ∧
            t.flagPending .datumFailed = true)) ∧
        (¬ ((s.slots.get j).state = .armed ∧ (s.slots.get j).source = sourceOfRef input ∧ (s.slots.get j).edge = edge) →
          t.axes.get j = s.axes.get j ∧ t.slots.get j = s.slots.get j)

/-- The Datum Controller's gate report (IMMEDIATE_DATUM, DATUM_TIMEOUT): every ARMED IMMEDIATE slot is applied, with its
DATUM capture, as a reference mark applies one; then every slot still ARMED has its age counted, and one whose age equals
its timeout ends TIMEOUT with DATUM_FAILED, its axis unchanged; DEFERRED and IDLE slots stay (R82, R83, R84, R85, R86,
R107). That the captures of one gate end are accepted in ascending order of axis, and latch the axes after all its datums, is
the model's choice (log entry 4), and so is the age that a slot keeps at its end (log entry 16). -/
def Obligations.GateReportsApplyAndExpireDatums : Prop :=
  ∀ (s : State) (i : Instr), (i = .immediateDatum ∨ i = .datumTimeout) → s.resetLow = false → s.due.datum = true →
    ∃ t : State, exec i s = .next t ∧
      t = { s with
        axes := t.axes, slots := t.slots, capture := t.capture, main := { s.main with lost := t.main.lost }
        due := { s.due with datum := false }, events := { s.events with pending := t.events.pending } } ∧
      (∃ u : State,
        DatumsApplied (fun j => decide ((s.slots.get j).state = .armed ∧ (s.slots.get j).source = .immediate))
          { s with due := { s.due with datum := false } } u ∧
        t = { u with
          slots := t.slots
          events := { u.events with
            pending := u.events.pending |||
              (if ∃ j, (s.slots.get j).state = .armed ∧ (s.slots.get j).source ≠ .immediate ∧
                  (s.slots.get j).timeout ≠ 0 ∧ min ((s.slots.get j).age + 1) 65535 = (s.slots.get j).timeout then 64
                else 0) } }) ∧
      ∀ j,
        ((s.slots.get j).state = .armed → (s.slots.get j).source = .immediate → s.allTracking j = true →
          (t.axes.get j).state = .referenced ∧
          (t.axes.get j).epoch = (if (s.axes.get j).epoch = 65535 then 1 else (s.axes.get j).epoch + 1) ∧
          (t.axes.get j).offset = (s.slots.get j).preset - geometricSum s j ∧ (t.axes.get j).nDat = s.refr.nInUse ∧
          (∀ c, (t.axes.get j).datumBreaks.get c = (s.channels.get c).breaks) ∧
          t.slots.get j = { s.slots.get j with state := .idle, owner := none, outcome := .done } ∧
          t.flagPending .datumDone = true) ∧
        ((s.slots.get j).state = .armed → (s.slots.get j).source = .immediate → s.allTracking j = false →
          t.axes.get j = s.axes.get j ∧
          t.slots.get j = { s.slots.get j with state := .idle, owner := none, outcome := .notTracking } ∧
          t.flagPending .datumFailed = true) ∧
        ((s.slots.get j).state = .armed → (s.slots.get j).source ≠ .immediate →
          t.axes.get j = s.axes.get j ∧
          ((s.slots.get j).timeout ≠ 0 → min ((s.slots.get j).age + 1) 65535 = (s.slots.get j).timeout →
            t.slots.get j =
              { s.slots.get j with
                state := .idle, owner := none, outcome := .timeout, age := min ((s.slots.get j).age + 1) 65535 } ∧
            t.flagPending .datumFailed = true) ∧
          (((s.slots.get j).timeout = 0 ∨ min ((s.slots.get j).age + 1) 65535 ≠ (s.slots.get j).timeout) →
            t.slots.get j = { s.slots.get j with age := min ((s.slots.get j).age + 1) 65535 })) ∧
        ((s.slots.get j).state ≠ .armed → t.axes.get j = s.axes.get j ∧ t.slots.get j = s.slots.get j)

/-! ## Captures -/

/-- What a capture latches: state and source of every channel; state, epoch, offset and N_dat of every axis; the axes of
the mask that are defined and the forced axis, ascending and once each, with value, clamp, epoch, state and generator use;
the N in use; the five latched flags; the id of the open scan or 0 (R26, R73, R110, R120). -/
def Obligations.LatchesHoldOneSampleSet : Prop :=
  ∀ (s : State) (forced : Option (Fin 4)),
    ((latchNow s forced).axes.map fun a => a.axis) =
      ([0, 1, 2, 3] : List (Fin 4)).filter (fun (j : Fin 4) =>
        decide ((s.params.captureAxes.getLsbD j = true ∧ (s.axes.get j).state ≠ .undefined) ∨ forced = some j)) ∧
    (∀ a, a ∈ (latchNow s forced).axes →
      a.value = axisValue s a.axis ∧ a.clamped = axisClamped s a.axis ∧ a.epoch = (s.axes.get a.axis).epoch ∧
      a.state = (s.axes.get a.axis).state ∧
      (a.generator = true ↔
        ∃ c, weighted s.params a.axis c = true ∧ (s.channels.get c).source = .generator)) ∧
    (∀ c, (latchNow s forced).channels.get c =
      { state := (s.channels.get c).state, source := (s.channels.get c).source }) ∧
    (∀ j, (latchNow s forced).context.get j =
      { state := (s.axes.get j).state, epoch := (s.axes.get j).epoch, offset := (s.axes.get j).offset
        nDat := (s.axes.get j).nDat }) ∧
    (latchNow s forced).n = s.refr.nInUse ∧
    ((latchNow s forced).laserNotLocked = true ↔ s.params.lockOverride = false ∧ s.lock.state ≠ .locked) ∧
    (latchNow s forced).lockForced = s.params.lockOverride ∧
    ((latchNow s forced).envStale = true ↔ s.refr.env = .stale) ∧
    ((latchNow s forced).trackerFrozen = true ↔ s.refr.tracker = .frozen) ∧
    ((latchNow s forced).test = true ↔
      (∃ a, a ∈ (latchNow s forced).axes ∧ a.generator = true) ∨
        ∃ c, s.params.trackerCh = some c ∧ (s.channels.get c).source = .generator) ∧
    ((s.scan.state = .armed ∨ s.scan.state = .active) → ∀ d, s.scan.descriptor = some d →
      (latchNow s forced).scanId = d.id) ∧
    ((s.scan.state = .idle ∨ s.scan.state = .aborted) → (latchNow s forced).scanId = 0)

/-- The three requests for captures from outside. LINE_EVENT: an edge not selected has no effect; inside the ACTIVE scan on
its input it is accepted as inside on the scan axis; outside it is accepted under KEEP and dropped without a trace under
DISCARD. CAPTURE NOW answers OK or NO_SLOT with the number spent. A servo CAPTURE uses the latch of its frame's SYNC. An
acceptance spends the next number and takes one of eight slots, or is lost and charged to the main ring (R103, R104, R105,
R106, R108, R111). -/
def Obligations.CaptureRequestsAreAccepted : Prop :=
  (∀ (s : State) (input : LineInput) (edge : Edge), s.resetLow = false →
    (edge ≠ lineEdge s.params input → exec (.lineEvent input edge) s = .next s) ∧
    (edge = lineEdge s.params input →
      (∀ d, s.scan.state = .active → s.scan.descriptor = some d → d.line = input →
        ∃ t, Accepted (.line input (.inside d.axis)) (latchNow s (some d.axis)) s t ∧
          exec (.lineEvent input edge) s = .next t) ∧
      ((s.scan.state = .active → ∀ d, s.scan.descriptor = some d → d.line ≠ input) →
        (s.params.keepOutside = true →
          ∃ t, Accepted (.line input .outside) (latchNow s none) s t ∧ exec (.lineEvent input edge) s = .next t) ∧
        (s.params.keepOutside = false → exec (.lineEvent input edge) s = .next s)))) ∧
  (∀ s : State, s.Waits →
    ∃ t, Accepted (.strobe .command) (latchNow s none) s t ∧
      exec .captureNow s =
        .next (t.answer 0x23 0
          ((if s.capture.inFlight.length < 8 then 0x00 else 0x1E) :: be 4 s.capture.nextSeq.toNat))) ∧
  ∀ (s : State) (b : Byte) (l : Latch), s.resetLow = false → s.sv.request = some b → b.toNat / 64 = 3 →
    s.sv.latch = some l →
    ∃ t, Accepted (.strobe .servo) l s t ∧
      exec .servoCapture s =
        .next { t with
          sv := { s.sv with
            result := if s.capture.inFlight.length < 8 then RequestResult.accepted else RequestResult.noSlot
            request := none } }

/-- CAPTURE_FINALIZATION, with no report due, has no effect (the model's choice, log entry 2). Else the Capture Unit takes a
gate report, its captures that await the gate leave their slots, the
others stay, and each becomes a record in the order of acceptance. The record has the latched values; for a LINE capture
with a valid velocity the value is compensated for its latency; the flags, velocities and direction come from the report.
STROBE, DATUM and SCAN_END go to the main ring, an outside or scan-ended LINE to the exception ring with OUTSIDE_SCAN, an
inside LINE to the matcher, with the value, state and epoch of its scan axis entry, and then by its reason (R61, R114, R115, R116, R117, R118, R119). -/
def Obligations.FinalizationMakesTheRecord : Prop :=
  (∀ s : State, s.resetLow = false → s.due.capture = none → exec .captureFinalization s = .next s) ∧
  (∀ (s : State) (r : GateReport), s.resetLow = false → s.due.capture = some r →
    (s.capture.inFlight.filter fun q => q.gate == r.gate) = [] →
    exec .captureFinalization s = .next { s with due := { s.due with capture := none } }) ∧
  (∀ (s : State) (r : GateReport) (c : Capture) (more : List Capture), s.resetLow = false → s.due.capture = some r →
    (s.capture.inFlight.filter fun q => q.gate == r.gate) = c :: more →
    ∃ t : State, exec .captureFinalization { s with capture := { s.capture with inFlight := [c] } } = .next t ∧
      exec .captureFinalization s =
        exec .captureFinalization
          { t with
            due := { t.due with capture := some r }
            capture :=
              { t.capture with inFlight := (s.capture.inFlight.filter fun q => q.gate != r.gate) ++ more } }) ∧
  ∀ (s : State) (r : GateReport) (c : Capture), s.resetLow = false → s.due.capture = some r → s.capture.inFlight = [c] →
    c.gate = r.gate → 0 < r.length → 0 < r.tNs →
    ∃ (rec : Record) (u : State) (exact : LatchedAxis → Int),
      u = { s with capture := { s.capture with inFlight := [] }, due := { s.due with capture := none } } ∧
      (∀ a, a ∈ c.latch.axes →
        ((¬ ∃ input mark, c.kind = .line input mark) → exact a = a.value) ∧
        ∀ input mark, c.kind = .line input mark →
          ((r.axes.get a.axis).valid = false → exact a = a.value) ∧
          ((r.axes.get a.axis).valid = true → ∃ term : Int, exact a = a.value - term ∧
            IsRounded
              ((r.axes.get a.axis).velocity * (if input = .line0 then s.params.lineLatency0 else s.params.lineLatency1))
              (r.length * r.tNs) term)) ∧
      rec.seq = c.seq ∧ rec.kind = c.kind ∧ rec.gate = c.gate ∧ rec.scanId = c.latch.scanId ∧ rec.n = c.latch.n ∧
      ((∀ a, a ∈ c.latch.axes → inLengthRange a.value = true) →
        rec.axes = c.latch.axes.map fun a =>
          { axis := a.axis, value := clampTo (-140737488355327) 140737488355327 (exact a), epoch := a.epoch
            state := a.state
            velocity := if (r.axes.get a.axis).valid = true then some (r.axes.get a.axis).reported else none }) ∧
      rec.flags.laserNotLocked = c.latch.laserNotLocked ∧ rec.flags.lockForced = c.latch.lockForced ∧
      rec.flags.envStale = c.latch.envStale ∧ rec.flags.trackerFrozen = c.latch.trackerFrozen ∧
      rec.flags.test = c.latch.test ∧
      ((∀ a, a ∈ c.latch.axes → inLengthRange a.value = true) →
        (rec.flags.axisClamp = true ↔ ∃ a, a ∈ c.latch.axes ∧ (a.clamped = true ∨ inLengthRange (exact a) = false))) ∧
      (rec.flags.noVelocity = true ↔ ∃ a, a ∈ c.latch.axes ∧ (r.axes.get a.axis).valid = false) ∧
      (rec.flags.notSteady = true ↔ ∃ a, a ∈ c.latch.axes ∧ (r.axes.get a.axis).steady = false) ∧
      (rec.flags.fast = true ↔ ∃ a, a ∈ c.latch.axes ∧ (r.axes.get a.axis).fast = true) ∧
      ((¬ ∃ input mark, c.kind = .line input mark) →
        rec.direction = none ∧ rec.matchPart = none ∧ rec.reason = none ∧
        exec .captureFinalization s = .next (handToMain rec u)) ∧
      ∀ input mark, c.kind = .line input mark →
        (∀ j, (mark = .inside j ∨ mark = .scanEnded j ∨
            (mark = .outside ∧ (c.latch.axes.head?.map fun a => a.axis) = some j)) →
          ((r.axes.get j).sign = .positive → rec.direction = some .forward) ∧
          ((r.axes.get j).sign = .negative → rec.direction = some .reverse) ∧
          (((r.axes.get j).sign = .zero ∨ (r.axes.get j).sign = .none) → rec.direction = some .unknown)) ∧
        (mark = .outside → c.latch.axes = [] → rec.direction = some .unknown) ∧
        ((mark = .outside ∨ ∃ j, mark = .scanEnded j) →
          rec.matchPart = none ∧ rec.reason = some .outsideScan ∧
          exec .captureFinalization s = .next (handToException rec u)) ∧
        ∀ (j : Fin 4) (a : LatchedAxis), mark = .inside j → c.latch.axes.find? (fun a => a.axis == j) = some a →
          inLengthRange a.value = true →
          ∃ (q : LineQuery) (m : State × LineAnswer), m = matchLine q u ∧
            q.x = clampTo (-140737488355327) 140737488355327 (exact a) ∧ q.state = a.state ∧
            q.epoch = a.epoch ∧ q.valid = (r.axes.get j).valid ∧ q.fast = (r.axes.get j).fast ∧ q.seq = c.seq ∧
            rec.matchPart = m.2.part ∧ rec.reason = m.2.reason ∧
            (rec.reason = none → exec .captureFinalization s = .next (handToMain rec m.1)) ∧
            (rec.reason ≠ none → exec .captureFinalization s = .next (handToException rec m.1))

/-- A record handed to a ring with room, whose number no ring holds, is committed at the tail with the ring's lost count in
lost_before, the count returns to 0 and the ring's READY flag is raised; the main ring's fill is then compared with the water
marks. A record that finds the ring full, or its number held, is dropped: the lost count rises and RECORDS_LOST is raised
(R167, R168). -/
def Obligations.RecordsAreCommittedOrDropped : Prop :=
  ∀ (s : State) (r : Record),
    (s.main.records.length < 512 → (∀ q, q ∈ s.main.records ∨ q ∈ s.exc.records → q.seq ≠ r.seq) →
      handToMain r s =
        holdCompare { s with
          main := { s.main with records := s.main.records ++ [{ r with lostBefore := s.main.lost }], lost := 0 }
          events := { s.events with pending := s.events.pending ||| 1 } }) ∧
    ((512 ≤ s.main.records.length ∨ ∃ q, (q ∈ s.main.records ∨ q ∈ s.exc.records) ∧ q.seq = r.seq) →
      handToMain r s =
        { s with
          main := { s.main with lost := if s.main.lost < 65535 then s.main.lost + 1 else 65535 }
          events := { s.events with pending := s.events.pending ||| 4 } }) ∧
    (s.exc.records.length < 128 → (∀ q, q ∈ s.main.records ∨ q ∈ s.exc.records → q.seq ≠ r.seq) →
      handToException r s =
        { s with
          exc := { s.exc with records := s.exc.records ++ [{ r with lostBefore := s.exc.lost }], lost := 0 }
          events := { s.events with pending := s.events.pending ||| 2 } }) ∧
    ((128 ≤ s.exc.records.length ∨ ∃ q, (q ∈ s.main.records ∨ q ∈ s.exc.records) ∧ q.seq = r.seq) →
      handToException r s =
        { s with
          exc := { s.exc with lost := if s.exc.lost < 65535 then s.exc.lost + 1 else 65535 }
          events := { s.events with pending := s.events.pending ||| 4 } })

/-! ## Graduations -/

/-- The matcher on a line: the pre-checks in their order stop it without a lookup; else the entry whose closed window holds
X decides, STRAY without one, OUT_OF_ORDER when it lies the wrong way from the last matched nominal, MATCHED at hit count 0,
DOUBLE otherwise; hits, first hit, last matched nominal, cursor and the scan's tally move with the result and nothing else
does. The epoch of the scan axis entry is not tested (R134, R135, R136, R137, R138, R139, R140, R141, R142, R156). -/
def Obligations.LinesAreMatched : Prop :=
  ∀ (s : State) (q : LineQuery) (d : Descriptor), s.scan.descriptor = some d → TableLaw s.matcher.table →
    (∀ epoch : Nat, matchLine { q with epoch := epoch } s = matchLine q s) ∧
    (q.state ≠ .referenced → matchLine q s = (s, { reason := some .axisNotReferenced, part := none })) ∧
    (q.state = .referenced → q.valid = false → matchLine q s = (s, { reason := some .noVelocity, part := none })) ∧
    (q.state = .referenced → q.valid = true → q.fast = true →
      matchLine q s = (s, { reason := some .fast, part := none })) ∧
    (q.state = .referenced → q.valid = true → q.fast = false →
      ((∀ e, e ∈ s.matcher.table → ¬ (e.nominal - e.halfWindow ≤ q.x ∧ q.x ≤ e.nominal + e.halfWindow)) →
        matchLine q s =
          ({ s with scan := { s.scan with stray := if s.scan.stray < 65535 then s.scan.stray + 1 else 65535 } },
            { reason := some .stray, part := some { result := .stray, index := none, deviation := none } })) ∧
      ∀ (pos : Nat) (e : Entry), s.matcher.table[pos]? = some e → e.nominal - e.halfWindow ≤ q.x →
        q.x ≤ e.nominal + e.halfWindow → ∀ wrong : Prop,
        (wrong ↔ ∃ last, s.matcher.lastMatched = some last ∧
          ((d.direction = .forward ∧ e.nominal < last) ∨ (d.direction = .reverse ∧ last < e.nominal))) →
        (wrong →
          matchLine q s =
            ({ s with
                scan := { s.scan with outOfOrder := if s.scan.outOfOrder < 65535 then s.scan.outOfOrder + 1 else 65535 } },
              { reason := some .outOfOrder
                part := some { result := .outOfOrder, index := some e.index, deviation := some (q.x - e.nominal) } })) ∧
        (¬ wrong → e.hits = 0 →
          matchLine q s =
            ({ s with
                matcher :=
                  { table := s.matcher.table.set pos { e with hits := 1, firstHit := some q.seq }
                    lastMatched := some e.nominal, cursor := some pos }
                scan := { s.scan with matched := if s.scan.matched < 65535 then s.scan.matched + 1 else 65535 } },
              { reason := none
                part := some { result := .matched, index := some e.index, deviation := some (q.x - e.nominal) } })) ∧
        (¬ wrong → e.hits ≠ 0 →
          matchLine q s =
            ({ s with
                matcher :=
                  { s.matcher with
                    table := s.matcher.table.set pos { e with hits := if e.hits < 255 then e.hits + 1 else 255 } }
                scan := { s.scan with double := if s.scan.double < 65535 then s.scan.double + 1 else 65535 } },
              { reason := some .double
                part := some { result := .double, index := some e.index, deviation := some (q.x - e.nominal) } })))

/-- TABLE INSERT: its refusals in their order, and the insertion, which gives the entry the position that keeps the law of
the table, with no hits, and makes the cursor absent (R127, R128). -/
def Obligations.InsertionsKeepTheTable : Prop :=
  ∀ (s : State) (index : BitVec 16) (nominal : BitVec 64) (halfWindow : BitVec 32) (retained : Byte), s.Waits →
    ((2 ≤ retained.toNat ∨ nominal.toInt < -140737488355327 ∨ 140737488355327 < nominal.toInt ∨ halfWindow.toNat = 0 ∨
        1000000000 < halfWindow.toNat) →
      exec (.tableInsert index nominal halfWindow retained) s = .next (s.answer 0x30 15 [0x10, 0, 0])) ∧
    (retained.toNat ≤ 1 → -140737488355327 ≤ nominal.toInt → nominal.toInt ≤ 140737488355327 → 1 ≤ halfWindow.toNat →
      halfWindow.toNat ≤ 1000000000 →
      (s.scanIsOpen = true →
        exec (.tableInsert index nominal halfWindow retained) s = .next (s.answer 0x30 15 [0x12, 0, 0])) ∧
      (s.scanIsOpen = false →
        (4096 ≤ s.matcher.table.length →
          exec (.tableInsert index nominal halfWindow retained) s = .next (s.answer 0x30 15 [0x20, 0, 0])) ∧
        (s.matcher.table.length < 4096 → TableLaw s.matcher.table →
          (∀ (pos : Nat) (e : Entry), s.matcher.table[pos]? = some e → e.index = index.toNat →
            exec (.tableInsert index nominal halfWindow retained) s = .next (s.answer 0x30 15 (0x21 :: be 2 pos))) ∧
          ((∀ e, e ∈ s.matcher.table → e.index ≠ index.toNat) →
            (∀ (pos : Nat) (e : Entry), s.matcher.table[pos]? = some e →
              nominal.toInt - halfWindow.toNat ≤ e.nominal + e.halfWindow →
              e.nominal - e.halfWindow ≤ nominal.toInt + halfWindow.toNat →
              (∀ (k : Nat) (f : Entry), k < pos → s.matcher.table[k]? = some f →
                f.nominal + f.halfWindow < nominal.toInt - halfWindow.toNat) →
              exec (.tableInsert index nominal halfWindow retained) s =
                .next (s.answer 0x30 15 (0x22 :: be 2 e.index))) ∧
            ((∀ e, e ∈ s.matcher.table →
                e.nominal + e.halfWindow < nominal.toInt - halfWindow.toNat ∨
                nominal.toInt + halfWindow.toNat < e.nominal - e.halfWindow) →
              ∃ (before after : List Entry) (e : Entry),
                e = { index := index.toNat, nominal := nominal.toInt, halfWindow := halfWindow.toNat
                      retained := retained == 1, hits := 0, firstHit := none } ∧
                s.matcher.table = before ++ after ∧ TableLaw (before ++ e :: after) ∧
                exec (.tableInsert index nominal halfWindow retained) s =
                  .next (({ s with
                    matcher := { s.matcher with table := before ++ e :: after, cursor := none } }).answer 0x30 15
                    (0x00 :: be 2 before.length)))))))

/-- TABLE DELETE, TABLE FLUSH and TABLE READ: their refusals in their order; the entry removed with its position answered
and the cursor absent; the retained entries, or none, kept by a flush, with both counts answered and the cursor absent only
where something went; the entry read by position or by index with its scan results, and nothing changed (R126, R129, R130,
R131). -/
def Obligations.TableCommandsAreAnswered : Prop :=
  (∀ (s : State) (index : BitVec 16) (force : Byte), s.Waits →
    (2 ≤ force.toNat → exec (.tableDelete index force) s = .next (s.answer 0x31 3 [0x10, 0, 0])) ∧
    (force.toNat ≤ 1 →
      (s.scanIsOpen = true → exec (.tableDelete index force) s = .next (s.answer 0x31 3 [0x12, 0, 0])) ∧
      (s.scanIsOpen = false →
        ((∀ e, e ∈ s.matcher.table → e.index ≠ index.toNat) →
          exec (.tableDelete index force) s = .next (s.answer 0x31 3 [0x23, 0, 0])) ∧
        (TableLaw s.matcher.table → ∀ (pos : Nat) (e : Entry), s.matcher.table[pos]? = some e → e.index = index.toNat →
          (e.retained = true → force = 0 →
            exec (.tableDelete index force) s = .next (s.answer 0x31 3 [0x24, 0, 0])) ∧
          ((e.retained = false ∨ force = 1) →
            exec (.tableDelete index force) s =
              .next (({ s with
                matcher := { s.matcher with table := s.matcher.table.eraseIdx pos, cursor := none } }).answer 0x31 3
                (0x00 :: be 2 pos))))))) ∧
  (∀ (s : State) (option : Byte), s.Waits →
    (2 ≤ option.toNat → exec (.tableFlush option) s = .next (s.answer 0x32 1 [0x10, 0, 0, 0, 0])) ∧
    (option.toNat ≤ 1 →
      (s.scanIsOpen = true → exec (.tableFlush option) s = .next (s.answer 0x32 1 [0x12, 0, 0, 0, 0])) ∧
      (s.scanIsOpen = false → ∀ kept : List Entry,
        kept = (if option = 1 then [] else s.matcher.table.filter fun e => e.retained) →
        exec (.tableFlush option) s =
          .next (({ s with
            matcher :=
              { s.matcher with
                table := kept
                cursor := if kept.length = s.matcher.table.length then s.matcher.cursor else none } }).answer 0x32 1
            (0x00 :: (be 2 (s.matcher.table.length - kept.length : Int) ++ be 2 kept.length)))))) ∧
  ∀ (s : State) (mode : Byte) (key : BitVec 16), s.Waits →
    ((2 ≤ mode.toNat ∨ (mode = 0 ∧ 4096 ≤ key.toNat)) →
      exec (.tableRead mode key) s = .next (s.answer 0x33 3 (0x10 :: List.replicate 25 0))) ∧
    (mode = 0 → key.toNat < 4096 → s.matcher.table.length ≤ key.toNat →
      exec (.tableRead mode key) s = .next (s.answer 0x33 3 (0x23 :: List.replicate 25 0))) ∧
    (mode = 1 → (∀ e, e ∈ s.matcher.table → e.index ≠ key.toNat) →
      exec (.tableRead mode key) s = .next (s.answer 0x33 3 (0x23 :: List.replicate 25 0))) ∧
    (TableLaw s.matcher.table → ∀ (pos : Nat) (e : Entry), s.matcher.table[pos]? = some e →
      ((mode = 0 ∧ key.toNat = pos ∧ pos < 4096) ∨ (mode = 1 ∧ e.index = key.toNat)) →
      exec (.tableRead mode key) s =
        .next (s.answer 0x33 3
          (0x00 :: (be 2 pos ++ be 2 e.index ++ be 8 e.nominal ++ be 4 e.halfWindow ++ [if e.retained then 1 else 0]
            ++ be 1 e.hits ++ (match e.firstHit with
              | none => [0, 0, 0, 0, 0]
              | some q => 1 :: be 4 q.toNat) ++ be 2 s.matcher.table.length))))

/-! ## Scans and the carriage hold -/

/-- SCAN OPEN: its refusals in their order; taken, the scan is ARMED with its descriptor and clear tallies, every entry's
hits and first hit are cleared with the matcher's state, and an ARMED datum slot of the axis is DEFERRED with age 0
(R133, R147, R148). -/
def Obligations.ScansAreOpened : Prop :=
  (∀ (s : State) (id axis line direction : Byte) (start stop : BitVec 64), s.Waits →
    (id = 0 ∨ 4 ≤ axis.toNat ∨ 2 ≤ line.toNat ∨ 2 ≤ direction.toNat ∨ inLengthRange start.toInt = false ∨
      inLengthRange stop.toInt = false) →
    exec (.scanOpen id axis line direction start stop) s = .next (s.answer 0x40 20 [0x10])) ∧
  ∀ (s : State) (id axis line direction : Byte) (start stop : BitVec 64) (d : Descriptor), s.Waits →
    1 ≤ d.id → id.toNat = d.id → axis.toNat = d.axis → line.toNat = lineNumber d.line →
    direction.toNat = d.direction.number → start.toInt = d.start → stop.toInt = d.stop → inLengthRange d.start = true →
    inLengthRange d.stop = true →
    (s.scan.state ≠ .idle →
      exec (.scanOpen id axis line direction start stop) s = .next (s.answer 0x40 20 [0x13])) ∧
    (s.scan.state = .idle →
      (((d.direction = .forward ∧ d.stop ≤ d.start) ∨ (d.direction = .reverse ∧ d.start ≤ d.stop)) →
        exec (.scanOpen id axis line direction start stop) s = .next (s.answer 0x40 20 [0x16])) ∧
      (((d.direction = .forward ∧ d.start < d.stop) ∨ (d.direction = .reverse ∧ d.stop < d.start)) →
        ((s.axes.get d.axis).state ≠ .referenced →
          exec (.scanOpen id axis line direction start stop) s = .next (s.answer 0x40 20 [0x17])) ∧
        ((s.axes.get d.axis).state = .referenced → s.lock.state ≠ .locked → s.params.lockOverride = false →
          exec (.scanOpen id axis line direction start stop) s = .next (s.answer 0x40 20 [0x1A])) ∧
        ((s.axes.get d.axis).state = .referenced → (s.lock.state = .locked ∨ s.params.lockOverride = true) →
          (s.refr.env = .stale → s.refr.vacuumInForce = false →
            exec (.scanOpen id axis line direction start stop) s = .next (s.answer 0x40 20 [0x1B])) ∧
          ((s.refr.env = .fresh ∨ s.refr.vacuumInForce = true) →
            exec (.scanOpen id axis line direction start stop) s =
              .next (({ s with
                scan :=
                  { state := .armed, descriptor := some d, matched := 0, stray := 0, double := 0, outOfOrder := 0
                    endCause := none, missed := none, gateAtActive := none }
                matcher :=
                  { table := s.matcher.table.map fun (e : Entry) => { e with hits := 0, firstHit := none }
                    lastMatched := none, cursor := none }
                slots := s.slots.set d.axis
                  (if (s.slots.get d.axis).state = SlotState.armed then
                    { s.slots.get d.axis with state := SlotState.deferred, age := 0 }
                  else s.slots.get d.axis) }).answer 0x40 20 [0x00])))))

/-- The end of a scan by SCAN CLOSE and by any cause: its state, end cause and missed count; the rearmed slot; the inside
captures marked scan-ended; the SCAN_END capture accepted last, with the summary; SCAN_ENDED raised. SCAN CLOSE with none
open is NOT_OPEN. SCAN CLEAR takes ABORTED to IDLE and changes nothing else, and is NOT_ABORTED otherwise (R143, R151, R152,
R155, R156). -/
def Obligations.ScansEnd : Prop :=
  (∀ (s : State) (d : Descriptor) (cause : EndCause), s.openScan = some d →
    ∃ (missed : Nat) (closed t : State),
      missed = s.matcher.table.countP (fun e =>
        decide (e.hits = 0 ∧
          ((d.direction = .forward ∧ d.start ≤ e.nominal ∧ e.nominal ≤ d.stop) ∨
            (d.direction = .reverse ∧ d.stop ≤ e.nominal ∧ e.nominal ≤ d.start)))) ∧
      closed = { s with
        scan :=
          { s.scan with
            state := if cause = .stopReached ∨ cause = .closed then ScanState.idle else ScanState.aborted
            endCause := some cause, missed := some missed }
        slots := s.slots.set d.axis
          (if (s.slots.get d.axis).state = SlotState.deferred then
            { s.slots.get d.axis with state := SlotState.armed, age := 0 }
          else s.slots.get d.axis)
        capture := { s.capture with inFlight := closed.capture.inFlight } } ∧
      closed.capture.inFlight.length = s.capture.inFlight.length ∧
      (∀ (k : Nat) (q : Capture), s.capture.inFlight[k]? = some q →
        (∀ input j, q.kind = .line input (.inside j) →
          closed.capture.inFlight[k]? = some { q with kind := .line input (.scanEnded j) }) ∧
        ((¬ ∃ input j, q.kind = .line input (.inside j)) → closed.capture.inFlight[k]? = some q)) ∧
      Accepted
        (.scanEnd
          { matched := s.scan.matched, stray := s.scan.stray, double := s.scan.double, outOfOrder := s.scan.outOfOrder
            missed := missed, cause := cause })
        { latchNow closed (some d.axis) with scanId := d.id } closed t ∧
      endScan cause s = { t with events := { t.events with pending := t.events.pending ||| 128 } }) ∧
  (∀ (s : State) (d : Descriptor), s.Waits → s.openScan = some d →
    exec .scanClose s = .next ((endScan .closed s).answer 0x41 0 [0x00])) ∧
  (∀ s : State, s.Waits → (s.scan.state = .idle ∨ s.scan.state = .aborted) →
    exec .scanClose s = .next (s.answer 0x41 0 [0x14])) ∧
  (∀ s : State, s.Waits → s.scan.state = .aborted →
    exec .scanClear s = .next (({ s with scan := { s.scan with state := .idle } }).answer 0x42 0 [0x00])) ∧
  ∀ s : State, s.Waits → s.scan.state ≠ .aborted → exec .scanClear s = .next (s.answer 0x42 0 [0x15])

/-- SCAN_ACTIVE and STOP_REACHED: at a gate report an ARMED scan becomes ACTIVE when the gate-end value of its axis has
reached the start, and notes the gate; an ACTIVE scan ends with STOP_REACHED when the value has passed the stop; otherwise,
and in IDLE and ABORTED, nothing but the taking of the report happens (R149, R150). -/
def Obligations.GateReportsMoveTheScan : Prop :=
  ∀ (s : State) (i : Instr) (r : GateReport) (u : State), (i = .scanActive ∨ i = .stopReached) → s.resetLow = false →
    s.due.scan = some r → u = { s with due := { s.due with scan := none } } →
    ((s.scan.state = .idle ∨ s.scan.state = .aborted) → exec i s = .next u) ∧
    ∀ d, s.scan.descriptor = some d →
      (s.scan.state = .armed →
        (((d.direction = .forward ∧ d.start ≤ (r.axes.get d.axis).value) ∨
            (d.direction = .reverse ∧ (r.axes.get d.axis).value ≤ d.start)) →
          exec i s = .next { u with scan := { s.scan with state := .active, gateAtActive := some r.gate } }) ∧
        (((d.direction = .forward ∧ (r.axes.get d.axis).value < d.start) ∨
            (d.direction = .reverse ∧ d.start < (r.axes.get d.axis).value)) → exec i s = .next u)) ∧
      (s.scan.state = .active →
        (((d.direction = .forward ∧ d.stop < (r.axes.get d.axis).value) ∨
            (d.direction = .reverse ∧ (r.axes.get d.axis).value < d.stop)) →
          exec i s = .next (endScan .stopReached u)) ∧
        (((d.direction = .forward ∧ (r.axes.get d.axis).value ≤ d.stop) ∨
            (d.direction = .reverse ∧ d.stop ≤ (r.axes.get d.axis).value)) → exec i s = .next u))

/-- The carriage hold: the comparison of the fill with the water marks in each of the four states, and the counting of a gate
report in HOLD_PENDING, with HOLD_UNSEEN raised once when the age has reached HOLD_TIMEOUT (R160, R161, R164). -/
def Obligations.TheHoldFollowsTheFill : Prop :=
  (∀ s : State,
    (s.svHold = true ↔ s.hold.state = .holdPending ∨ s.hold.state = .holding) ∧
    (s.hold.state = .run →
      (s.params.highWater ≤ s.main.records.length →
        holdCompare s = { s with hold := { state := .holdPending, age := 0, unseen := false } }) ∧
      (s.main.records.length < s.params.highWater → holdCompare s = s)) ∧
    (s.hold.state = .holdPending →
      (s.main.records.length ≤ s.params.lowWater → holdCompare s = { s with hold := { s.hold with state := .run } }) ∧
      (s.params.lowWater < s.main.records.length → holdCompare s = s)) ∧
    (s.hold.state = .holding →
      (s.main.records.length ≤ s.params.lowWater →
        holdCompare s = { s with hold := { s.hold with state := .releasePending } }) ∧
      (s.params.lowWater < s.main.records.length → holdCompare s = s)) ∧
    (s.hold.state = .releasePending →
      (s.params.highWater ≤ s.main.records.length →
        holdCompare s = { s with hold := { s.hold with state := .holding } }) ∧
      (s.main.records.length < s.params.highWater → holdCompare s = s))) ∧
  ∀ (s : State) (age : Nat) (u : State), s.resetLow = false → s.due.hold = true →
    age = (if s.hold.age < 65535 then s.hold.age + 1 else 65535) →
    u = { s with due := { s.due with hold := false } } →
    (s.hold.state ≠ .holdPending → exec .holdUnseen s = .next u) ∧
    (s.hold.state = .holdPending → (age < s.params.holdTimeout ∨ s.hold.unseen = true) →
      exec .holdUnseen s = .next { u with hold := { s.hold with age := age } }) ∧
    (s.hold.state = .holdPending → s.params.holdTimeout ≤ age → s.hold.unseen = false →
      exec .holdUnseen s =
        .next { u with
          hold := { s.hold with age := age, unseen := true }
          events := { s.events with pending := s.events.pending ||| 256 } })

/-! ## The servo link -/

/-- SYNC_ARRIVAL latches a frame and a capture latch from the last sample set, whatever frame was in progress; a request due
is taken first, as its own row takes it (the order of the two is the model's, log entry 7). SERVO_FRAME_COMPLETION advances
the counter, leaves no frame, delivers the hold flag that the frame carried, and leaves the request to be taken; without a
frame it has no effect. A request NONE has result NONE and no action. On SV_DOUT stand the bytes of the frame as latched, and
0x00 where there is none. The frame's bytes are those of R186 (R63, R73, R162, R184, R185, R186, R187). -/
def Obligations.ServoFramesShowTheLastSampleSet : Prop :=
  (∀ s : State, s.resetLow = false → s.sv.request = none → 0 < s.params.servoUnit → ∃ f : Frame,
    exec .syncArrival s = .next { s with sv := { s.sv with frame := some f, latch := some (latchNow s none) } } ∧
    f.counter = s.sv.counter ∧ (f.hold = true ↔ s.hold.state = .holdPending ∨ s.hold.state = .holding) ∧
    f.lock = (if s.params.lockOverride then .locked else s.lock.state) ∧ (f.stale = true ↔ s.refr.env = .stale) ∧
    (f.scanActive = true ↔ s.scan.state = .armed ∨ s.scan.state = .active) ∧ f.result = s.sv.result ∧ f.clocked = 0 ∧
    (∀ i, s.params.servoMap.get i = none → f.slots.get i = { channelHold := false, state := .undefined, servo := 0 }) ∧
    ∀ i j, s.params.servoMap.get i = some j →
      (f.slots.get i).state = (s.axes.get j).state ∧
      ((f.slots.get i).channelHold = true ↔ (s.axes.get j).state ≠ .undefined ∧
        ∃ c, weighted s.params j c = true ∧ (s.channels.get c).state ≠ .tracking) ∧
      -2147483648 ≤ (f.slots.get i).servo ∧ (f.slots.get i).servo ≤ 2147483647 ∧
      ∃ q : Int, q * s.params.servoUnit ≤ axisValue s j ∧ axisValue s j < (q + 1) * s.params.servoUnit ∧
        ((f.slots.get i).servo - q) % 4294967296 = 0) ∧
  (∀ (s : State) (b : Byte) (l : Latch), s.resetLow = false → s.sv.request = some b → s.sv.latch = some l →
    ∃ (i : Instr) (u : State),
      i = (if b.toNat / 64 = 0 then .servoRequestNone else if b.toNat / 64 = 1 then .servoDatumArm
        else if b.toNat / 64 = 2 then .servoDatumCancel else .servoCapture) ∧
      exec i s = .next u ∧ u.sv.request = none ∧ exec .syncArrival s = exec .syncArrival u) ∧
  (∀ (s : State) (b : Byte), s.resetLow = false →
    (s.sv.frame = none → exec (.servoFrameCompletion b) s = .next s) ∧
    ∀ f, s.sv.frame = some f →
      exec (.servoFrameCompletion b) s =
        .next { s with
          sv := { s.sv with counter := s.sv.counter + 1, frame := none, request := some b }
          hold := { s.hold with
            state :=
              if s.hold.state = HoldState.holdPending ∧ f.hold = true then HoldState.holding
              else if s.hold.state = HoldState.releasePending ∧ f.hold = false then HoldState.run
              else s.hold.state } }) ∧
  (∀ (s : State) (b : Byte), s.resetLow = false → s.sv.request = some b → b.toNat / 64 = 0 →
    exec .servoRequestNone s = .next { s with sv := { s.sv with result := .none, request := none } }) ∧
  (∀ (s : State) (k : Nat), (s.sv.frame = none → s.svDout k = 0x00) ∧
    ∀ f, s.sv.frame = some f → (∀ b : Byte, f.bytes[k]? = some b → s.svDout k = b) ∧ (23 ≤ k → s.svDout k = 0x00)) ∧
  ∀ f : Frame, f.bytes.length = 23 ∧
    f.bytes =
      [f.counter,
        BitVec.ofInt 8 ((if f.hold then 128 else 0) + 32 * f.lock.number + (if f.stale then 16 else 0)
          + (if f.scanActive then 8 else 0)),
        BitVec.ofInt 8 f.result.number]
      ++ ([0, 1, 2, 3] : List (Fin 4)).flatMap fun i =>
        BitVec.ofInt 8 ((if (f.slots.get i).channelHold then 128 else 0) + (f.slots.get i).state.number)
          :: be 4 (f.slots.get i).servo

/-! ## Events, identity and resets -/

/-- The bytes of READ STATUS, group by group and in full, with every code as the tables give it. READ EVENTS returns the pending set and clears it; SET EVENT MASK stores a mask within the twelve flags and refuses any
other; MP_ATTN is asserted exactly while a flag is both pending and enabled; a raised flag becomes pending whatever the mask,
and no other flag changes. IDENTIFY returns its 12 bytes, READ STATUS its 402, and neither changes anything (R174, R175, R176,
R183). -/
def Obligations.EventsAndIdentityAreRead : Prop :=
  (∀ s : State, s.Waits →
    exec .readEvents s =
      .next (({ s with events := { s.events with pending := 0 } }).answer 0x03 0
        (0x00 :: be 2 s.events.pending.toNat)) ∧
    exec .identify s =
      .next (s.answer 0x01 0 [0x00, 0x10, 0x18, 0x01, 0x04, 0x04, 0x08, 0x02, 0x00, 0x00, 0x80, 0x10, 0x00]) ∧
    ∃ data : List Byte, data.length = 402 ∧ exec .readStatus s = .next (s.answer 0x02 0 (0x00 :: data)) ∧
      data =
        (([0, 1, 2, 3] : List (Fin 4)).flatMap fun c =>
          be 1 (s.channels.get c).state.number ++ be 1 (s.channels.get c).cause.number
            ++ be 1 (s.channels.get c).source.number ++ be 4 (s.channels.get c).breaks.toNat
            ++ be 8 (s.channels.get c).count)
        ++ (be 1 s.lock.state.number ++ be 1 (if s.params.lockOverride then 2 else s.lock.state.number)
          ++ be 4 s.lock.settle ++ be 1 (if s.params.lockOverride then 1 else 0))
        ++ (be 4 s.refr.nInUse ++ be 4 s.refr.nBase ++ be 1 s.refr.tracker.number ++ be 1 s.refr.env.number
          ++ be 4 s.refr.age ++ be 1 s.refr.result.number ++ item 4 s.refr.pending ++ item 4 s.refr.held)
        ++ (([0, 1, 2, 3] : List (Fin 4)).flatMap fun j =>
          be 1 (s.axes.get j).state.number ++ be 2 (s.axes.get j).epoch ++ be 8 (s.axes.get j).offset
            ++ be 4 (s.axes.get j).nDat ++ be 1 (s.slots.get j).state.number ++ be 1 (ownerNumber (s.slots.get j).owner)
            ++ be 1 (s.slots.get j).source.number ++ be 1 (edgeNumber (s.slots.get j).edge)
            ++ be 8 (s.slots.get j).preset ++ be 2 (s.slots.get j).timeout ++ be 2 (s.slots.get j).age
            ++ be 1 (s.slots.get j).outcome.number)
        ++ (be 4 s.motion.gateNumber.toNat ++ be 2 s.motion.gateCounter ++ be 2 s.motion.gateLength
          ++ be 1 s.params.gateSel)
        ++ (([0, 1, 2, 3] : List (Fin 4)).flatMap fun j =>
          be 4 (s.motion.axes.get j).velocity ++ be 4 (s.motion.axes.get j).reported
            ++ be 1 (if (s.motion.axes.get j).valid then 1 else 0) ++ be 1 (s.motion.axes.get j).sign.number
            ++ be 1 (s.motion.axes.get j).steadyCount ++ be 1 (if (s.motion.axes.get j).steady then 1 else 0)
            ++ be 1 (if (s.motion.axes.get j).fast then 1 else 0) ++ item 4 (s.motion.axes.get j).reference)
        ++ (be 4 s.capture.nextSeq.toNat ++ be 1 s.capture.inFlight.length
          ++ (match s.capture.inFlight with
            | [] => be 4 0 ++ be 4 0
            | q :: _ => be 4 q.seq.toNat ++ be 4 q.gate.toNat))
        ++ (be 2 s.matcher.table.length ++ be 2 (s.matcher.table.filter fun e => e.retained).length
          ++ item 8 s.matcher.lastMatched
          ++ (match s.matcher.cursor with
            | none => be 1 0 ++ be 2 0 ++ be 2 0
            | some pos => be 1 1 ++ be 2 pos ++ be 2 ((s.matcher.table[pos]?.map fun e => e.index).getD 0)))
        ++ (be 1 s.scan.state.number
          ++ (match s.scan.descriptor with
            | none => be 1 0 ++ be 1 0 ++ be 1 0 ++ be 1 0 ++ be 1 0 ++ be 8 0 ++ be 8 0
            | some d =>
              be 1 1 ++ be 1 d.id ++ be 1 (d.axis : Nat) ++ be 1 (lineNumber d.line) ++ be 1 d.direction.number
                ++ be 8 d.start ++ be 8 d.stop)
          ++ be 2 s.scan.matched ++ be 2 s.scan.stray ++ be 2 s.scan.double ++ be 2 s.scan.outOfOrder
          ++ be 1 (endCauseNumber s.scan.endCause) ++ item 2 (s.scan.missed.map fun n => (n : Int))
          ++ item 4 (s.scan.gateAtActive.map fun g => (g.toNat : Int)))
        ++ (be 1 s.hold.state.number
          ++ be 1 (if s.hold.state = .holdPending ∨ s.hold.state = .holding then 1 else 0) ++ be 2 s.hold.age
          ++ be 1 (if s.hold.unseen then 1 else 0) ++ be 2 s.params.highWater ++ be 2 s.params.lowWater)
        ++ (be 2 s.main.records.length ++ be 2 s.main.lost ++ item 4 (s.main.records.head?.map fun r => (r.seq.toNat : Int)))
        ++ (be 2 s.exc.records.length ++ be 2 s.exc.lost ++ item 4 (s.exc.records.head?.map fun r => (r.seq.toNat : Int)))
        ++ (be 2 s.events.pending.toNat ++ be 2 s.events.mask.toNat)) ∧
  (∀ (s : State) (m : BitVec 16), s.Waits →
    (m.toNat < 4096 →
      exec (.setEventMask m) s =
        .next (({ s with events := { s.events with mask := BitVec.ofNat 12 m.toNat } }).answer 0x04 2 [0x00])) ∧
    (4096 ≤ m.toNat → exec (.setEventMask m) s = .next (s.answer 0x04 2 [0x10]))) ∧
  ∀ (s : State) (f : Flag),
    (s.mpAttn = true ↔
      ∃ g : Flag, s.events.pending.getLsbD g.number = true ∧ s.events.mask.getLsbD g.number = true) ∧
    (∀ g : Flag, s.flagPending g = s.events.pending.getLsbD g.number) ∧
    ∀ g : Flag, (raise f s).flagPending g = (decide (g = f) || s.flagPending g)

/-- RESTART and DEVICE_RESET: every block takes its reset values. RESTART keeps every stored parameter and every table entry
with its scan results cleared, and its own transaction goes on to answer OK; DEVICE_RESET returns every parameter to its
default, empties the table, and ends the transaction, also while RESET_N was low (R1, R4, R33, R43, R74, R88, R102, R121,
R125, R146, R177, R183, and the parameter table of R181). -/
def Obligations.ResetsReturnEveryBlock : Prop :=
  (∀ s : State, s.Waits → ∃ t : State, exec .restart s = .next (t.answer 0x7F 0 [0x00]) ∧ AtReset t ∧
    t.params = s.params ∧ t.matcher.table = s.matcher.table.map (fun e => { e with hits := 0, firstHit := none }) ∧
    t.mp = s.mp ∧ t.pending = s.pending ∧ t.resetLow = false ∧ t.due = .nothing) ∧
  (∀ (s : State) (held : Bool), ∃ t : State, exec (.deviceReset held) s = .next t ∧ AtReset t ∧
    (∀ q, getParam t.params q = tableDefault q) ∧ t.matcher.table = [] ∧
    t.mp = { selected := s.mp.selected, transaction := none } ∧ t.pending = s.pending ∧ t.resetLow = held ∧
    t.due = .nothing) ∧
  AtReset State.reset ∧ (∀ q, getParam State.reset.params q = tableDefault q) ∧ State.reset.matcher.table = []

/-! ## The laws of the part -/

/-- The laws hold at reset: of the state right after it, and of the state that either reset leaves from a lawful one. -/
def Obligations.LawsHoldAtReset : Prop :=
  Lawful State.reset ∧
  ∀ (s t : State) (i : Instr), ((i = .restart ∧ s.Waits) ∨ ∃ h, i = .deviceReset h) → ParamLaw s.params →
    TableLaw s.matcher.table → (∀ j c, s.params.trackerCh = some c → weighted s.params j c = false) →
    exec i s = .next t → Lawful t

/-- Every step keeps the law of the channels: counts in range, a TRACKING count aligned with its last phase, a loss cause
exactly in LOST, and a generator that runs exactly while it is used (R14, R16, R192). -/
def Obligations.StepsKeepTheChannelLaw : Prop :=
  ∀ s t : State, ChannelLaw s → step s = .next t → ChannelLaw t

/-- Every step keeps the law of refractivity: N in use, base and every update that waits lie in 0..4,000,000, and vacuum mode
in force means N = 0 and FRESH (R34, R41). -/
def Obligations.StepsKeepTheRefractivityLaw : Prop :=
  ∀ s t : State, RefractivityLaw s → step s = .next t → RefractivityLaw t

/-- Every step keeps the laws of the axes: a REFERENCED axis has the break numbers of its datum on every weighted channel;
UNDEFINED means no weight; ARMED slots only without an open scan on the axis, DEFERRED only with one; no request without an
axis or an owner; no weight on the tracker channel (R44, R68, R71, R80). -/
def Obligations.StepsKeepTheAxisLaws : Prop :=
  (∀ s t : State, DatumLaw s → step s = .next t → DatumLaw t) ∧
  ∀ s t : State, AxisLaw s → step s = .next t → AxisLaw t

/-- Every step keeps the laws of the store: rings and capture slots within their capacities, no sequence number twice in the
rings, lost counts saturated, every capture awaiting the gate in progress or the one whose report is still to be taken
(R108, R111, R166, R169). Every step that does not carry the next sequence number past its wrap keeps the numbers of each
ring in increasing order, behind them those in flight, and the next number above all (R108, R114, R166).
Every step keeps the law of the graduation table: at most 4096 entries, ascending, disjoint windows, distinct indices,
fields in range (R123). -/
def Obligations.StepsKeepTheStoreAndTableLaws : Prop :=
  ((∀ s t : State, StoreLaw s → step s = .next t → StoreLaw t) ∧
  (∀ s t : State, AwaitedGateLaw s → step s = .next t → AwaitedGateLaw t) ∧
  ∀ s t : State, AwaitedGateLaw s → SequenceLaw s → step s = .next t →
    s.capture.nextSeq.toNat ≤ t.capture.nextSeq.toNat → SequenceLaw t) ∧
  (∀ s t : State, TableLaw s.matcher.table → step s = .next t → TableLaw t.matcher.table)

/-- Every step keeps the parameters in their ranges, the water marks in order with SV_HOLD asserted at a fill of HIGH_WATER,
and the counters of every block in their ranges, the channels' settle and bad-run counters, the lock settle counter, the
environment age and the period position among them (R6, R12, R17, R29, R41, R89, R161, R163, R181, R182, R193). -/
def Obligations.StepsKeepParametersHoldAndCounters : Prop :=
  (∀ s t : State, ParamLaw s.params → step s = .next t → ParamLaw t.params) ∧
  (∀ s t : State, HoldLaw s → step s = .next t → HoldLaw t) ∧
  ∀ s t : State, CounterLaw s → step s = .next t → CounterLaw t

/-- While a scan is open, nothing but DEVICE_RESET changes a parameter that enters the position arithmetic, or the index, nominal,
half-window and retained flag of an entry of the table (R132, R158). -/
def Obligations.OpenScansKeepArithmeticAndTable : Prop :=
  ∀ (s t : State) (i : Instr), s.scanIsOpen = true → (∀ h, i ≠ .deviceReset h) → exec i s = .next t →
    (∀ q, inArithmetic q = true → getParam t.params q = getParam s.params q) ∧
    t.matcher.table.map (fun e => (e.index, e.nominal, e.halfWindow, e.retained)) =
      s.matcher.table.map (fun e => (e.index, e.nominal, e.halfWindow, e.retained))
end

