-- ==== Sys2Proof/Laws/State.lean ====
section
/-! SUPPORT. The fields of a state after each small update that several rules share, one lemma per field, and the laws of
four like things. -/

namespace Sys2Proof

namespace Four

variable {α β : Type}

@[simp] theorem get_set_same (f : Four α) (i : Fin 4) (x : α) : (f.set i x).get i = x := by
  fin_cases i <;> rfl

theorem get_set_ne (f : Four α) {i j : Fin 4} (x : α) (h : j ≠ i) : (f.set i x).get j = f.get j := by
  fin_cases i <;> fin_cases j <;> first | rfl | exact absurd rfl h

theorem get_set (f : Four α) (i j : Fin 4) (x : α) : (f.set i x).get j = if j = i then x else f.get j := by
  by_cases h : j = i
  · subst h; simp
  · rw [if_neg h, get_set_ne f x h]

@[simp] theorem get_ofFn (g : Fin 4 → α) (i : Fin 4) : (ofFn g).get i = g i := by fin_cases i <;> rfl

@[simp] theorem get_mapIdx (f : Four α) (g : Fin 4 → α → β) (i : Fin 4) : (f.mapIdx g).get i = g i (f.get i) := by
  fin_cases i <;> rfl

@[simp] theorem get_fill (x : α) (i : Fin 4) : (fill x).get i = x := by fin_cases i <;> rfl

/-- Two fours with the same things are the same. -/
theorem ext_get {f g : Four α} (h : ∀ i, f.get i = g.get i) : f = g := by
  cases f; cases g
  have h0 := h 0; have h1 := h 1; have h2 := h 2; have h3 := h 3
  simp only [get] at h0 h1 h2 h3
  subst h0 h1 h2 h3; rfl

@[simp] theorem set_get_self (f : Four α) (i : Fin 4) : f.set i (f.get i) = f := by fin_cases i <;> rfl

end Four

/-- A number 0..3 is one of the four of `indices`. -/
@[simp] theorem mem_indices (i : Fin 4) : i ∈ indices := by fin_cases i <;> simp [indices]

namespace Machine

/-! ## A raised flag -/

@[simp] theorem raise_pending (f : Flag) (s : State) : (raise f s).pending = s.pending := rfl
@[simp] theorem raise_resetLow (f : Flag) (s : State) : (raise f s).resetLow = s.resetLow := rfl
@[simp] theorem raise_samplePort (f : Flag) (s : State) : (raise f s).samplePort = s.samplePort := rfl
@[simp] theorem raise_params (f : Flag) (s : State) : (raise f s).params = s.params := rfl
@[simp] theorem raise_channels (f : Flag) (s : State) : (raise f s).channels = s.channels := rfl
@[simp] theorem raise_lock (f : Flag) (s : State) : (raise f s).lock = s.lock := rfl
@[simp] theorem raise_refr (f : Flag) (s : State) : (raise f s).refr = s.refr := rfl
@[simp] theorem raise_axes (f : Flag) (s : State) : (raise f s).axes = s.axes := rfl
@[simp] theorem raise_slots (f : Flag) (s : State) : (raise f s).slots = s.slots := rfl
@[simp] theorem raise_motion (f : Flag) (s : State) : (raise f s).motion = s.motion := rfl
@[simp] theorem raise_due (f : Flag) (s : State) : (raise f s).due = s.due := rfl
@[simp] theorem raise_capture (f : Flag) (s : State) : (raise f s).capture = s.capture := rfl
@[simp] theorem raise_matcher (f : Flag) (s : State) : (raise f s).matcher = s.matcher := rfl
@[simp] theorem raise_scan (f : Flag) (s : State) : (raise f s).scan = s.scan := rfl
@[simp] theorem raise_hold (f : Flag) (s : State) : (raise f s).hold = s.hold := rfl
@[simp] theorem raise_main (f : Flag) (s : State) : (raise f s).main = s.main := rfl
@[simp] theorem raise_exc (f : Flag) (s : State) : (raise f s).exc = s.exc := rfl
@[simp] theorem raise_mp (f : Flag) (s : State) : (raise f s).mp = s.mp := rfl
@[simp] theorem raise_sv (f : Flag) (s : State) : (raise f s).sv = s.sv := rfl
@[simp] theorem raise_env (f : Flag) (s : State) : (raise f s).env = s.env := rfl
@[simp] theorem raise_gen (f : Flag) (s : State) : (raise f s).gen = s.gen := rfl

@[simp] theorem raise_mask (f : Flag) (s : State) : (raise f s).events.mask = s.events.mask := rfl
@[simp] theorem raise_pendingFlags (f : Flag) (s : State) :
    (raise f s).events.pending = s.events.pending ||| f.set := rfl

@[simp] theorem raiseIf_true (f : Flag) (s : State) : raiseIf true f s = raise f s := rfl
@[simp] theorem raiseIf_false (f : Flag) (s : State) : raiseIf false f s = s := rfl

@[simp] theorem raiseIf_pending (b : Bool) (f : Flag) (s : State) : (raiseIf b f s).pending = s.pending := by
  cases b <;> rfl
@[simp] theorem raiseIf_resetLow (b : Bool) (f : Flag) (s : State) : (raiseIf b f s).resetLow = s.resetLow := by
  cases b <;> rfl
@[simp] theorem raiseIf_samplePort (b : Bool) (f : Flag) (s : State) : (raiseIf b f s).samplePort = s.samplePort := by
  cases b <;> rfl
@[simp] theorem raiseIf_params (b : Bool) (f : Flag) (s : State) : (raiseIf b f s).params = s.params := by
  cases b <;> rfl
@[simp] theorem raiseIf_channels (b : Bool) (f : Flag) (s : State) : (raiseIf b f s).channels = s.channels := by
  cases b <;> rfl
@[simp] theorem raiseIf_lock (b : Bool) (f : Flag) (s : State) : (raiseIf b f s).lock = s.lock := by
  cases b <;> rfl
@[simp] theorem raiseIf_refr (b : Bool) (f : Flag) (s : State) : (raiseIf b f s).refr = s.refr := by
  cases b <;> rfl
@[simp] theorem raiseIf_axes (b : Bool) (f : Flag) (s : State) : (raiseIf b f s).axes = s.axes := by
  cases b <;> rfl
@[simp] theorem raiseIf_slots (b : Bool) (f : Flag) (s : State) : (raiseIf b f s).slots = s.slots := by
  cases b <;> rfl
@[simp] theorem raiseIf_motion (b : Bool) (f : Flag) (s : State) : (raiseIf b f s).motion = s.motion := by
  cases b <;> rfl
@[simp] theorem raiseIf_due (b : Bool) (f : Flag) (s : State) : (raiseIf b f s).due = s.due := by
  cases b <;> rfl
@[simp] theorem raiseIf_capture (b : Bool) (f : Flag) (s : State) : (raiseIf b f s).capture = s.capture := by
  cases b <;> rfl
@[simp] theorem raiseIf_matcher (b : Bool) (f : Flag) (s : State) : (raiseIf b f s).matcher = s.matcher := by
  cases b <;> rfl
@[simp] theorem raiseIf_scan (b : Bool) (f : Flag) (s : State) : (raiseIf b f s).scan = s.scan := by
  cases b <;> rfl
@[simp] theorem raiseIf_hold (b : Bool) (f : Flag) (s : State) : (raiseIf b f s).hold = s.hold := by
  cases b <;> rfl
@[simp] theorem raiseIf_main (b : Bool) (f : Flag) (s : State) : (raiseIf b f s).main = s.main := by
  cases b <;> rfl
@[simp] theorem raiseIf_exc (b : Bool) (f : Flag) (s : State) : (raiseIf b f s).exc = s.exc := by
  cases b <;> rfl
@[simp] theorem raiseIf_mp (b : Bool) (f : Flag) (s : State) : (raiseIf b f s).mp = s.mp := by
  cases b <;> rfl
@[simp] theorem raiseIf_sv (b : Bool) (f : Flag) (s : State) : (raiseIf b f s).sv = s.sv := by
  cases b <;> rfl
@[simp] theorem raiseIf_env (b : Bool) (f : Flag) (s : State) : (raiseIf b f s).env = s.env := by
  cases b <;> rfl
@[simp] theorem raiseIf_gen (b : Bool) (f : Flag) (s : State) : (raiseIf b f s).gen = s.gen := by
  cases b <;> rfl

/-! ## An answered command -/

@[simp] theorem answer_pending (s : State) (code : Byte) (n : Nat) (out : List Byte) :
    (s.answer code n out).pending = s.pending := rfl
@[simp] theorem answer_resetLow (s : State) (code : Byte) (n : Nat) (out : List Byte) :
    (s.answer code n out).resetLow = s.resetLow := rfl
@[simp] theorem answer_samplePort (s : State) (code : Byte) (n : Nat) (out : List Byte) :
    (s.answer code n out).samplePort = s.samplePort := rfl
@[simp] theorem answer_params (s : State) (code : Byte) (n : Nat) (out : List Byte) :
    (s.answer code n out).params = s.params := rfl
@[simp] theorem answer_channels (s : State) (code : Byte) (n : Nat) (out : List Byte) :
    (s.answer code n out).channels = s.channels := rfl
@[simp] theorem answer_lock (s : State) (code : Byte) (n : Nat) (out : List Byte) :
    (s.answer code n out).lock = s.lock := rfl
@[simp] theorem answer_refr (s : State) (code : Byte) (n : Nat) (out : List Byte) :
    (s.answer code n out).refr = s.refr := rfl
@[simp] theorem answer_axes (s : State) (code : Byte) (n : Nat) (out : List Byte) :
    (s.answer code n out).axes = s.axes := rfl
@[simp] theorem answer_slots (s : State) (code : Byte) (n : Nat) (out : List Byte) :
    (s.answer code n out).slots = s.slots := rfl
@[simp] theorem answer_motion (s : State) (code : Byte) (n : Nat) (out : List Byte) :
    (s.answer code n out).motion = s.motion := rfl
@[simp] theorem answer_due (s : State) (code : Byte) (n : Nat) (out : List Byte) :
    (s.answer code n out).due = s.due := rfl
@[simp] theorem answer_capture (s : State) (code : Byte) (n : Nat) (out : List Byte) :
    (s.answer code n out).capture = s.capture := rfl
@[simp] theorem answer_matcher (s : State) (code : Byte) (n : Nat) (out : List Byte) :
    (s.answer code n out).matcher = s.matcher := rfl
@[simp] theorem answer_scan (s : State) (code : Byte) (n : Nat) (out : List Byte) :
    (s.answer code n out).scan = s.scan := rfl
@[simp] theorem answer_hold (s : State) (code : Byte) (n : Nat) (out : List Byte) :
    (s.answer code n out).hold = s.hold := rfl
@[simp] theorem answer_main (s : State) (code : Byte) (n : Nat) (out : List Byte) :
    (s.answer code n out).main = s.main := rfl
@[simp] theorem answer_exc (s : State) (code : Byte) (n : Nat) (out : List Byte) :
    (s.answer code n out).exc = s.exc := rfl
@[simp] theorem answer_events (s : State) (code : Byte) (n : Nat) (out : List Byte) :
    (s.answer code n out).events = s.events := rfl
@[simp] theorem answer_sv (s : State) (code : Byte) (n : Nat) (out : List Byte) :
    (s.answer code n out).sv = s.sv := rfl
@[simp] theorem answer_env (s : State) (code : Byte) (n : Nat) (out : List Byte) :
    (s.answer code n out).env = s.env := rfl
@[simp] theorem answer_gen (s : State) (code : Byte) (n : Nat) (out : List Byte) :
    (s.answer code n out).gen = s.gen := rfl
@[simp] theorem answer_selected (s : State) (code : Byte) (n : Nat) (out : List Byte) :
    (s.answer code n out).mp.selected = s.mp.selected := rfl

end Machine

end Sys2Proof
end

