-- ==== Sys2Proof/Laws/Ops.lean ====
section
/-! SUPPORT. What each shared operation can do, said once: for a capture and a record the exact outcome, for the rest the
fields that may change. A frame equation names every field that can differ; all others are the same. -/

namespace Sys2Proof.Machine

theorem satSucc_eq (top n : Nat) : satSucc top n = if n < top then n + 1 else top := rfl

theorem satSucc_le (top n : Nat) : satSucc top n ≤ top := by
  unfold satSucc; split <;> omega

/-! ## Raising flags -/

theorem raiseIf_frame (b : Bool) (f : Flag) (s : State) :
    raiseIf b f s = { s with events := { s.events with pending := (raiseIf b f s).events.pending } } := by
  cases b <;> rfl

/-- A flag that is pending stays pending when another is raised. -/
theorem flagPending_raise (f g : Flag) (s : State) :
    (raise f s).flagPending g = (decide (g = f) || s.flagPending g) := by
  simp only [State.flagPending, raise_pendingFlags, BitVec.getLsbD_or]
  cases f <;> cases g <;> simp [Flag.set, Flag.bit]

/-! ## Captures -/

theorem acceptCapture_free {kind : CaptureKind} {latch : Latch} {s : State} (h : s.capture.inFlight.length < 8) :
    acceptCapture kind latch s =
      { s with
        capture :=
          { nextSeq := s.capture.nextSeq + 1
            inFlight := s.capture.inFlight ++
              [{ seq := s.capture.nextSeq, kind := kind, gate := s.motion.gateNumber, latch := latch }] } } := by
  simp [acceptCapture, State.slotFree, Config.captureSlots, h]

theorem acceptCapture_full {kind : CaptureKind} {latch : Latch} {s : State} (h : 8 ≤ s.capture.inFlight.length) :
    acceptCapture kind latch s =
      raise .recordsLost
        { s with
          capture := { s.capture with nextSeq := s.capture.nextSeq + 1 }
          main := { s.main with lost := satSucc 65535 s.main.lost } } := by
  simp [acceptCapture, State.slotFree, Config.captureSlots, Nat.not_lt.mpr h]

theorem acceptCapture_accepted (kind : CaptureKind) (latch : Latch) (s : State) :
    Accepted kind latch s (acceptCapture kind latch s) :=
  ⟨fun h => acceptCapture_free h, fun h => acceptCapture_full h⟩

theorem acceptCapture_nextSeq (kind : CaptureKind) (latch : Latch) (s : State) :
    (acceptCapture kind latch s).capture.nextSeq = s.capture.nextSeq + 1 := by
  unfold acceptCapture; split <;> rfl

theorem acceptCapture_frame (kind : CaptureKind) (latch : Latch) (s : State) :
    acceptCapture kind latch s =
      { s with
        capture := (acceptCapture kind latch s).capture
        main := { s.main with lost := (acceptCapture kind latch s).main.lost }
        events := { s.events with pending := (acceptCapture kind latch s).events.pending } } := by
  unfold acceptCapture; split <;> rfl

theorem latchWith_context (s : State) (forced : Option (Fin 4)) (scanId : Nat) (j : Fin 4) :
    (latchWith s forced scanId).context.get j = (s.axes.get j).context := by
  simp [latchWith]

theorem latchWith_channels (s : State) (forced : Option (Fin 4)) (scanId : Nat) (c : Fin 4) :
    (latchWith s forced scanId).channels.get c = (s.channels.get c).context := by
  simp [latchWith]

/-! ## The hold and the rings -/

theorem holdCompare_frame (s : State) : holdCompare s = { s with hold := (holdCompare s).hold } := by
  unfold holdCompare; split <;> (split <;> rfl)

theorem handToMain_frame (r : Record) (s : State) :
    handToMain r s =
      { s with
        main := { s.main with records := (handToMain r s).main.records, lost := (handToMain r s).main.lost }
        hold := (handToMain r s).hold
        events := { s.events with pending := (handToMain r s).events.pending } } := by
  unfold handToMain
  split
  · rw [holdCompare_frame]; rfl
  · rfl

theorem handToException_frame (r : Record) (s : State) :
    handToException r s =
      { s with
        exc :=
          { s.exc with records := (handToException r s).exc.records, lost := (handToException r s).exc.lost }
        events := { s.events with pending := (handToException r s).events.pending } } := by
  unfold handToException; split <;> rfl

/-- A record is committed at the tail, or dropped with the records as they were. -/
theorem handToMain_records (r : Record) (s : State) :
    (handToMain r s).main.records = s.main.records ∨
      (s.main.records.length < 512 ∧ s.seqHeld r.seq = false ∧
        (handToMain r s).main.records = s.main.records ++ [{ r with lostBefore := s.main.lost }]) := by
  unfold handToMain
  split
  · rename_i h
    rw [holdCompare_frame]
    exact .inr ⟨h.1, h.2, rfl⟩
  · exact .inl rfl

theorem handToException_records (r : Record) (s : State) :
    (handToException r s).exc.records = s.exc.records ∨
      (s.exc.records.length < 128 ∧ s.seqHeld r.seq = false ∧
        (handToException r s).exc.records = s.exc.records ++ [{ r with lostBefore := s.exc.lost }]) := by
  unfold handToException
  split
  · rename_i h
    exact .inr ⟨h.1, h.2, rfl⟩
  · exact .inl rfl

/-! ## The end of a scan -/

/-- Without an open scan an end changes nothing. -/
theorem endScan_none {cause : EndCause} {s : State} (h : s.openScan = none) : endScan cause s = s := by
  simp [endScan, h]

/-- With a scan open, an end is the closed scan with its SCAN_END capture accepted and SCAN_ENDED raised. -/
theorem endScan_some {cause : EndCause} {s : State} {d : Descriptor} (h : s.openScan = some d) :
    endScan cause s =
      raise .scanEnded
        (acceptCapture (.scanEnd (scanSummary s.scan (missedCount d s.matcher.table) cause))
          (latchWith (closeScan d cause s) (some d.axis) d.id) (closeScan d cause s)) := by
  simp [endScan, h]

theorem endScan_frame (cause : EndCause) (s : State) :
    endScan cause s =
      { s with
        scan := (endScan cause s).scan
        slots := (endScan cause s).slots
        capture := (endScan cause s).capture
        main := { s.main with lost := (endScan cause s).main.lost }
        events := { s.events with pending := (endScan cause s).events.pending } } := by
  cases h : s.openScan with
  | none => rw [endScan_none h]
  | some d =>
    rw [endScan_some h, acceptCapture_frame]
    rfl

theorem breakNotice_frame (broken : Fin 4 → Bool) (s : State) :
    breakNotice broken s =
      { s with
        scan := (breakNotice broken s).scan
        slots := (breakNotice broken s).slots
        capture := (breakNotice broken s).capture
        main := { s.main with lost := (breakNotice broken s).main.lost }
        events := { s.events with pending := (breakNotice broken s).events.pending } } := by
  unfold breakNotice
  split
  · rfl
  · split
    · exact endScan_frame _ _
    · rfl

theorem setChannels_frame (after : Four Channel) (s : State) :
    setChannels after s =
      { s with
        channels := after
        axes := s.axes.mapIdx fun j a => if axisBreaks s after j then { a with state := .broken } else a
        scan := (setChannels after s).scan
        slots := (setChannels after s).slots
        capture := (setChannels after s).capture
        main := { s.main with lost := (setChannels after s).main.lost }
        events := { s.events with pending := (setChannels after s).events.pending } } := by
  unfold setChannels
  rw [breakNotice_frame, raiseIf_frame]

/-! ## Datum slots -/

theorem requestDatum_frame (s : State) (j : Fin 4) (owner : Owner) (source : DatumSource) (edge : Edge) (preset : Int)
    (timeout : Nat) :
    (requestDatum s j owner source edge preset timeout).1 =
      { s with slots := (requestDatum s j owner source edge preset timeout).1.slots } := by
  unfold requestDatum
  simp only
  split <;> rfl

theorem cancelDatum_frame (s : State) (j : Fin 4) (owner : Owner) :
    (cancelDatum s j owner).1 = { s with slots := (cancelDatum s j owner).1.slots } := by
  unfold cancelDatum
  split
  · rfl
  · split <;> rfl

/-- What a capture latches does not depend on the captures accepted before it. -/
theorem latchNow_acceptCapture (kind : CaptureKind) (latch : Latch) (s : State) (forced : Option (Fin 4)) :
    latchNow (acceptCapture kind latch s) forced = latchNow s forced := by
  rw [acceptCapture_frame]; rfl

/-- The DATUM captures of the axes listed are accepted in that order, each with its axis listed. -/
theorem datumCaptures_acceptedAll (s : State) (axes : List (Fin 4)) :
    AcceptedAll (axes.map fun j => (.datum (s.slots.get j).source, latchNow s (some j))) s (datumCaptures s axes) := by
  induction axes generalizing s with
  | nil => rfl
  | cons j rest ih =>
    refine ⟨_, acceptCapture_accepted _ _ s, ?_⟩
    have slots : (acceptCapture (.datum (s.slots.get j).source) (latchNow s (some j)) s).slots = s.slots := by
      rw [acceptCapture_frame]
    have accepted := ih (acceptCapture (.datum (s.slots.get j).source) (latchNow s (some j)) s)
    rw [slots] at accepted
    simpa only [latchNow_acceptCapture, datumCaptures] using accepted

theorem datumCaptures_frame (s : State) (axes : List (Fin 4)) :
    datumCaptures s axes =
      { s with
        capture := (datumCaptures s axes).capture
        main := { s.main with lost := (datumCaptures s axes).main.lost }
        events := { s.events with pending := (datumCaptures s axes).events.pending } } := by
  induction axes generalizing s with
  | nil => rfl
  | cons j rest ih =>
    unfold datumCaptures
    rw [ih, acceptCapture_frame]

theorem applyDatums_frame (chosen : Fin 4 → Bool) (s : State) :
    applyDatums chosen s =
      { s with
        axes := s.axes.mapIdx fun j a =>
          if chosen j && s.allTracking j then referenceAxis s j (s.slots.get j).preset else a
        slots := s.slots.mapIdx fun j d =>
          if chosen j && s.allTracking j then d.finish .done
          else if chosen j && !s.allTracking j then d.finish .notTracking else d
        capture := (applyDatums chosen s).capture
        main := { s.main with lost := (applyDatums chosen s).main.lost }
        events := { s.events with pending := (applyDatums chosen s).events.pending } } := by
  unfold applyDatums
  simp only
  rw [datumCaptures_frame, raiseIf_frame, raiseIf_frame]

end Sys2Proof.Machine
end

