-- ==== Sys2Proof/Laws/Blocks.lean ====
section
/-! SUPPORT. What each block's event can change: a frame equation per operation, which names every field that can
differ. -/

namespace Sys2Proof.Machine

/-! ## Parameters -/

theorem weightChanged_frame (j : Fin 4) (s : State) :
    weightChanged j s =
      { s with
        axes := (weightChanged j s).axes
        motion := forgetSums (fun k => k == j) s.motion
        slots := (weightChanged j s).slots
        events := { s.events with pending := (weightChanged j s).events.pending } } := by
  unfold weightChanged
  simp only
  rw [raiseIf_frame]

theorem applyStore_frame (q : Param) (p : Params) (s : State) :
    applyStore q p s =
      { s with
        params := p
        axes := (applyStore q p s).axes
        motion := { s.motion with axes := (applyStore q p s).motion.axes }
        slots := (applyStore q p s).slots
        scan := (applyStore q p s).scan
        capture := (applyStore q p s).capture
        hold := (applyStore q p s).hold
        main := { s.main with lost := (applyStore q p s).main.lost }
        events := { s.events with pending := (applyStore q p s).events.pending } } := by
  unfold applyStore
  cases q <;> simp only
  case weight j c =>
    split
    · rw [weightChanged_frame]; rfl
    · rfl
  case lambda => split <;> rfl
  case pathK c => split <;> rfl
  case deadPath c => split <;> rfl
  case lockOverride =>
    split
    · unfold unlockNotice; rw [endScan_frame]
    · rfl
  case highWater => rw [holdCompare_frame]
  case lowWater => rw [holdCompare_frame]

/-! ## Laser lock and refractivity -/

theorem lockArrive_frame (high : Bool) (s : State) :
    lockArrive high s =
      { s with
        lock := s.lock.arrive (lockSettleLength s.params) high
        scan := (lockArrive high s).scan
        slots := (lockArrive high s).slots
        capture := (lockArrive high s).capture
        main := { s.main with lost := (lockArrive high s).main.lost }
        events := { s.events with pending := (lockArrive high s).events.pending } } := by
  unfold lockArrive
  simp only
  split
  · unfold unlockNotice; rw [endScan_frame, raiseIf_frame]
  · rw [raiseIf_frame]

theorem ageEnvironment_frame (s : State) :
    ageEnvironment s =
      { s with
        refr := s.refr.countAge (staleLimit s.params)
        events := { s.events with pending := (ageEnvironment s).events.pending } } := by
  unfold ageEnvironment
  rw [raiseIf_frame]

theorem takeGateEndRefr_frame (s : State) :
    takeGateEndRefr s =
      { s with
        refr := (takeGateEndRefr s).refr
        due := { s.due with refractivity := false }
        events := { s.events with pending := (takeGateEndRefr s).events.pending } } := by
  unfold takeGateEndRefr
  split
  · simp only
    split
    · rfl
    · rw [ageEnvironment_frame]
  · rename_i h
    have : s.due = { s.due with refractivity := false } := by
      cases hd : s.due; simp [hd] at h ⊢; exact h
    rw [← this]

theorem refrArrive_frame (s : State) :
    refrArrive s =
      { s with
        refr := s.refr.arrive
        events := { s.events with pending := (refrArrive s).events.pending } } := by
  unfold refrArrive
  rw [raiseIf_frame]

/-! ## Captures and the matcher -/

theorem matchLine_frame (q : LineQuery) (s : State) :
    (matchLine q s).1 = { s with matcher := (matchLine q s).1.matcher, scan := (matchLine q s).1.scan } := by
  unfold matchLine lookupLine
  split
  · rfl
  · split <;> rfl

/-- The matcher does not test the epoch of the scan axis entry (R135). -/
theorem matchLine_epoch (q : LineQuery) (epoch : Nat) (s : State) :
    matchLine { q with epoch := epoch } s = matchLine q s := rfl

theorem handLine_frame (answer : LineAnswer) (rec : Record) (s : State) :
    handLine answer rec s =
      { s with
        main := { s.main with records := (handLine answer rec s).main.records, lost := (handLine answer rec s).main.lost }
        exc := { s.exc with records := (handLine answer rec s).exc.records, lost := (handLine answer rec s).exc.lost }
        hold := (handLine answer rec s).hold
        events := { s.events with pending := (handLine answer rec s).events.pending } } := by
  unfold handLine
  simp only
  split
  · rw [handToMain_frame]
  · rw [handToException_frame]

theorem finalize_frame (r : GateReport) (s : State) (c : Capture) :
    finalize r s c =
      { s with
        matcher := (finalize r s c).matcher
        scan := (finalize r s c).scan
        main := { s.main with records := (finalize r s c).main.records, lost := (finalize r s c).main.lost }
        exc := { s.exc with records := (finalize r s c).exc.records, lost := (finalize r s c).exc.lost }
        hold := (finalize r s c).hold
        events := { s.events with pending := (finalize r s c).events.pending } } := by
  unfold finalize
  split
  · simp only
    rw [handLine_frame, matchLine_frame]
  · rw [handLine_frame]
  · rw [handLine_frame]
  all_goals rw [handToMain_frame]

theorem finalizeAll_frame (r : GateReport) (cs : List Capture) (s : State) :
    cs.foldl (finalize r) s =
      { s with
        matcher := (cs.foldl (finalize r) s).matcher
        scan := (cs.foldl (finalize r) s).scan
        main :=
          { s.main with
            records := (cs.foldl (finalize r) s).main.records, lost := (cs.foldl (finalize r) s).main.lost }
        exc :=
          { s.exc with
            records := (cs.foldl (finalize r) s).exc.records, lost := (cs.foldl (finalize r) s).exc.lost }
        hold := (cs.foldl (finalize r) s).hold
        events := { s.events with pending := (cs.foldl (finalize r) s).events.pending } } := by
  induction cs generalizing s with
  | nil => rfl
  | cons c rest ih =>
    rw [List.foldl_cons, ih, finalize_frame]

theorem takeCaptureReport_frame (s : State) :
    takeCaptureReport s =
      { s with
        due := { s.due with capture := none }
        capture := { s.capture with inFlight := (takeCaptureReport s).capture.inFlight }
        matcher := (takeCaptureReport s).matcher
        scan := (takeCaptureReport s).scan
        main :=
          { s.main with
            records := (takeCaptureReport s).main.records, lost := (takeCaptureReport s).main.lost }
        exc :=
          { s.exc with
            records := (takeCaptureReport s).exc.records, lost := (takeCaptureReport s).exc.lost }
        hold := (takeCaptureReport s).hold
        events := { s.events with pending := (takeCaptureReport s).events.pending } } := by
  unfold takeCaptureReport
  split
  · rename_i h
    have : s.due = { s.due with capture := none } := by
      cases hd : s.due; simp [hd] at h ⊢; exact h
    rw [← this]
  · simp only
    rw [finalizeAll_frame]

/-! ## Gate reports of the other blocks -/

theorem takeScanReport_frame (s : State) :
    takeScanReport s =
      { s with
        due := { s.due with scan := none }
        scan := (takeScanReport s).scan
        slots := (takeScanReport s).slots
        capture := (takeScanReport s).capture
        main := { s.main with lost := (takeScanReport s).main.lost }
        events := { s.events with pending := (takeScanReport s).events.pending } } := by
  unfold takeScanReport
  split
  · rename_i h
    have : s.due = { s.due with scan := none } := by
      cases hd : s.due; simp [hd] at h ⊢; exact h
    rw [← this]
  · unfold testScan
    split
    · rfl
    · split
      · split <;> rfl
      · split
        · rw [endScan_frame]
        · rfl
      · rfl
      · rfl

theorem takeDatumReport_frame (s : State) :
    takeDatumReport s =
      { s with
        due := { s.due with datum := false }
        axes := (takeDatumReport s).axes
        slots := (takeDatumReport s).slots
        capture := (takeDatumReport s).capture
        main := { s.main with lost := (takeDatumReport s).main.lost }
        events := { s.events with pending := (takeDatumReport s).events.pending } } := by
  unfold takeDatumReport
  split
  · unfold ageSlots
    rw [raiseIf_frame, applyDatums_frame]
  · rename_i h
    have : s.due = { s.due with datum := false } := by
      cases hd : s.due; simp [hd] at h ⊢; exact h
    rw [← this]

theorem takeHoldReport_frame (s : State) :
    takeHoldReport s =
      { s with
        due := { s.due with hold := false }
        hold := (takeHoldReport s).hold
        events := { s.events with pending := (takeHoldReport s).events.pending } } := by
  unfold takeHoldReport
  split
  · unfold countHoldReport
    split
    · simp only
      split <;> rfl
    · rfl
  · rename_i h
    have : s.due = { s.due with hold := false } := by
      cases hd : s.due; simp [hd] at h ⊢; exact h
    rw [← this]

theorem takeTestReport_frame (s : State) :
    takeTestReport s =
      { s with
        due := { s.due with test := false }
        gen := (takeTestReport s).gen
        events := { s.events with pending := (takeTestReport s).events.pending } } := by
  unfold takeTestReport
  split
  · unfold countTestReport
    split
    · simp only
      split <;> rfl
    · rfl
  · rename_i h
    have : s.due = { s.due with test := false } := by
      cases hd : s.due; simp [hd] at h ⊢; exact h
    rw [← this]

/-- With nothing left of the last gate end, there is nothing to take. -/
theorem takeAll_nothing {s : State} (h : s.due = .nothing) : takeAll s = s := by
  have h1 : takeGateEndRefr s = s := by simp [takeGateEndRefr, h, Due.nothing]
  have h2 : takeCaptureReport s = s := by simp [takeCaptureReport, h, Due.nothing]
  have h3 : takeScanReport s = s := by simp [takeScanReport, h, Due.nothing]
  have h4 : takeDatumReport s = s := by simp [takeDatumReport, h, Due.nothing]
  have h5 : takeHoldReport s = s := by simp [takeHoldReport, h, Due.nothing]
  have h6 : takeTestReport s = s := by simp [takeTestReport, h, Due.nothing]
  simp [takeAll, h1, h2, h3, h4, h5, h6]

/-! ## The arrival -/

theorem frontEnd_frame (values : List (BitVec 16)) (s : State) :
    frontEnd values s =
      { s with
        gen := s.gen.arrive s.params
        channels := takeSet s.params (.ofFn (pairOf values)) (s.gen.pair s.params) s.channels
        axes := (frontEnd values s).axes
        scan := (frontEnd values s).scan
        slots := (frontEnd values s).slots
        capture := (frontEnd values s).capture
        main := { s.main with lost := (frontEnd values s).main.lost }
        events := { s.events with pending := (frontEnd values s).events.pending } } := by
  unfold frontEnd
  simp only
  rw [setChannels_frame, raiseIf_frame]

theorem countArrival_frame (s : State) :
    countArrival s =
      { s with
        motion := (countArrival s).motion
        due := (countArrival s).due
        refr := (countArrival s).refr
        events := { s.events with pending := (countArrival s).events.pending } } := by
  unfold countArrival
  split
  · rfl
  · rw [ageEnvironment_frame]

end Sys2Proof.Machine
end

