-- ==== Sys2Proof/Laws/Bytes.lean ====
section
/-! SUPPORT. Lengths of the byte sequences that leave the part (section 10.1, R183, R186, R190), and their codes as the tables
give them. -/

namespace Sys2Proof.Machine

@[simp] theorem be_length (n : Nat) (v : Int) : (be n v).length = n := by
  induction n generalizing v with
  | zero => rfl
  | succ n ih => simp [be, ih]

@[simp] theorem beNat_length (n v : Nat) : (beNat n v).length = n := be_length n v

@[simp] theorem beBool_length (b : Bool) : (beBool b).length = 1 := by cases b <;> rfl

@[simp] theorem beOption_length (n : Nat) (v : Option Int) : (beOption n v).length = n + 1 := by
  cases v <;> simp [beOption]

@[simp] theorem beOptionWord_length (v : Option Word32) : (beOptionWord v).length = 5 := by simp [beOptionWord]

@[simp] theorem beOptionNat_length (n : Nat) (v : Option Nat) : (beOptionNat n v).length = n + 1 := by
  simp [beOptionNat]

@[simp] theorem zeros_length (n : Nat) : (zeros n).length = n := by simp [zeros]

/-- The bytes of four things of one length. -/
theorem bytesOfFour_length {α : Type} (f : Four α) (g : α → List Byte) (n : Nat) (h : ∀ x, (g x).length = n) :
    (bytesOfFour f g).length = 4 * n := by
  simp [bytesOfFour, h]; omega

@[simp] theorem channelStatus_length (ch : Channel) : (channelStatus ch).length = 15 := by simp [channelStatus]
@[simp] theorem lockStatus_length (s : State) : (lockStatus s).length = 7 := by simp [lockStatus]
@[simp] theorem refractivityStatus_length (r : Refractivity) : (refractivityStatus r).length = 25 := by
  simp [refractivityStatus]
@[simp] theorem axisStatus_length (a : Axis) (d : DatumSlot) : (axisStatus a d).length = 32 := by simp [axisStatus]
@[simp] theorem axesStatus_length (s : State) : (axesStatus s).length = 128 := by simp [axesStatus]
@[simp] theorem gateStatus_length (s : State) : (gateStatus s).length = 9 := by simp [gateStatus]
@[simp] theorem motionStatus_length (m : AxisMotion) : (motionStatus m).length = 18 := by simp [motionStatus]
@[simp] theorem captureStatus_length (c : CaptureUnit) : (captureStatus c).length = 13 := by
  unfold captureStatus; split <;> simp
@[simp] theorem cursorStatus_length (m : Matcher) : (cursorStatus m).length = 5 := by
  unfold cursorStatus; split <;> simp
@[simp] theorem matcherStatus_length (m : Matcher) : (matcherStatus m).length = 18 := by simp [matcherStatus]
@[simp] theorem descriptorStatus_length (d : Option Descriptor) : (descriptorStatus d).length = 21 := by
  unfold descriptorStatus; split <;> simp
@[simp] theorem scanStatus_length (c : Scan) : (scanStatus c).length = 39 := by simp [scanStatus]
@[simp] theorem holdStatus_length (s : State) : (holdStatus s).length = 9 := by simp [holdStatus]
@[simp] theorem ringStatus_length (r : Ring) : (ringStatus r).length = 9 := by simp [ringStatus]
@[simp] theorem eventStatus_length (e : Events) : (eventStatus e).length = 4 := by simp [eventStatus]
@[simp] theorem channelsStatus_length (f : Four Channel) : (bytesOfFour f channelStatus).length = 60 :=
  bytesOfFour_length f _ 15 channelStatus_length
@[simp] theorem motionsStatus_length (f : Four AxisMotion) : (bytesOfFour f motionStatus).length = 72 :=
  bytesOfFour_length f _ 18 motionStatus_length

/-- READ STATUS answers with 402 bytes (R183). -/
theorem statusBytes_length (s : State) : (statusBytes s).length = 402 := by simp [statusBytes]

/-- A TABLE READ response has 25 bytes (R190). -/
theorem entryBytes_length (pos : Nat) (e : Entry) (total : Nat) : (entryBytes pos e total).length = 25 := by
  simp [entryBytes]

/-- A READ AXIS response has 24 bytes (R190). -/
theorem axisBytes_length (s : State) (j : Fin 4) : (axisBytes s j).length = 24 := by simp [axisBytes]

@[simp] theorem RecordAxis.bytes_length (a : RecordAxis) : a.bytes.length = 17 := by simp [RecordAxis.bytes]

/-- The length of a record: 23 bytes, 17 for each axis entry, 1 for a direction, 11 for a match part, 1 for a reason, 11
for a summary (R190). -/
theorem Record.bytes_length (r : Record) :
    r.bytes.length =
      23 + 17 * r.axes.length + (if r.direction.isSome then 1 else 0) + (if r.matchPart.isSome then 11 else 0)
        + (if r.reason.isSome then 1 else 0) + (if r.kind.summary.isSome then 11 else 0) := by
  have h1 : (r.axes.flatMap RecordAxis.bytes).length = 17 * r.axes.length := by
    induction r.axes with
    | nil => rfl
    | cons a rest ih => simp only [List.flatMap_cons, List.length_append, RecordAxis.bytes_length, ih, List.length_cons]; omega
  have h2 : (directionBytes r.direction).length = if r.direction.isSome then 1 else 0 := by
    cases r.direction <;> simp [directionBytes]
  have h3 : (matchBytes r.matchPart).length = if r.matchPart.isSome then 11 else 0 := by
    cases r.matchPart <;> simp [matchBytes]
  have h4 : (reasonBytes r.reason).length = if r.reason.isSome then 1 else 0 := by
    cases r.reason <;> simp [reasonBytes]
  have h5 : (summaryBytes r.kind.summary).length = if r.kind.summary.isSome then 11 else 0 := by
    cases r.kind.summary <;> simp [summaryBytes]
  simp only [Record.bytes, Record.body, List.length_append, beNat_length, be_length, h1, h2, h3, h4, h5]
  omega

/-! ## The codes are the numbers of the tables -/

theorem channelState_code_eq_number (x : ChannelState) : (x.code : Int) = x.number := by cases x <;> rfl

theorem lossCause_code_eq_number (x : LossCause) : (x.code : Int) = x.number := by cases x <;> rfl

theorem source_code_eq_number (x : Source) : (x.code : Int) = x.number := by cases x <;> rfl

theorem lockState_code_eq_number (x : LockState) : (x.code : Int) = x.number := by cases x <;> rfl

theorem trackerState_code_eq_number (x : TrackerState) : (x.code : Int) = x.number := by cases x <;> rfl

theorem envState_code_eq_number (x : EnvState) : (x.code : Int) = x.number := by cases x <;> rfl

theorem updateResult_code_eq_number (x : UpdateResult) : (x.code : Int) = x.number := by cases x <;> rfl

theorem axisState_code_eq_number (x : AxisState) : (x.code : Int) = x.number := by cases x <;> rfl

theorem slotState_code_eq_number (x : SlotState) : (x.code : Int) = x.number := by cases x <;> rfl

theorem datumSource_code_eq_number (x : DatumSource) : (x.code : Int) = x.number := by cases x <;> rfl

theorem datumOutcome_code_eq_number (x : DatumOutcome) : (x.code : Int) = x.number := by cases x <;> rfl

theorem sign_code_eq_number (x : Sign) : (x.code : Int) = x.number := by cases x <;> rfl

theorem scanState_code_eq_number (x : ScanState) : (x.code : Int) = x.number := by cases x <;> rfl

theorem holdState_code_eq_number (x : HoldState) : (x.code : Int) = x.number := by cases x <;> rfl

theorem direction_code_eq_number (x : Direction) : (x.code : Int) = x.number := by cases x <;> rfl

theorem requestResult_code_eq_number (x : RequestResult) : (x.code : Int) = x.number := by cases x <;> rfl

theorem ownerCode_eq_number (x : Option Owner) : (ownerCode x : Int) = ownerNumber x := by
  rcases x with _ | _ | _ <;> rfl

theorem lineCode_eq_number (x : LineInput) : (lineCode x : Int) = lineNumber x := by cases x <;> rfl

theorem edgeCode_eq_number (x : Edge) : edgeCode x = edgeNumber x := by cases x <;> rfl

theorem endCauseCode_eq_number (x : Option EndCause) : (endCauseCode x : Int) = endCauseNumber x := by
  rcases x with _ | x
  · rfl
  · cases x <;> rfl

/-- The table of R181 numbers every parameter as the port does. -/
theorem paramNumber_eq_tableNumber (q : Param) : paramNumber q = tableNumber q := by
  cases q <;> first | rfl | (rename_i i; cases i <;> rfl)

/-- The ranges of the plain parameters are those of the table of R181. -/
theorem paramKind_eq_tableKind (q : Param) (h : Sys2Proof.hasOwnRow q = false) : paramKind q = tableKind q := by
  cases q <;> first | rfl | simp [Sys2Proof.hasOwnRow] at h

end Sys2Proof.Machine
end

