-- ==== Sys2Proof/Laws/Commands.lean ====
section
/-! SUPPORT. What an event, a command of the measurement link and a START of the environment link can do, said once, and
the bytes that stand on the links. -/

namespace Sys2Proof.Machine

/-- An event outside reset runs. -/
theorem live_of_high {s : State} (h : s.resetLow = false) (f : State → State) : live s f = .next (f s) := by
  simp [live, h]

/-- While RESET_N is low an event has no effect. -/
theorem live_of_low {s : State} (h : s.resetLow = true) (f : State → State) : live s f = .next s := by
  simp [live, h]

/-- A waiting part is out of reset, with a transaction whose command is still to be taken. -/
theorem State.Waits.transaction {s : State} (h : s.Waits) :
    s.resetLow = false ∧ ∃ t, s.mp.transaction = some t ∧ t.taken = false := by
  obtain ⟨a, b⟩ := h
  cases ht : s.mp.transaction with
  | none => simp [ht] at b
  | some t => exact ⟨a, t, rfl, by simpa [ht] using b⟩

/-- A part that does not wait ignores commands. -/
theorem not_waits {s : State} (h : ¬ s.Waits) :
    s.resetLow = true ∨ s.mp.transaction = none ∨ ∃ t, s.mp.transaction = some t ∧ t.taken = true := by
  cases hr : s.resetLow with
  | true => exact .inl rfl
  | false =>
    cases ht : s.mp.transaction with
    | none => exact .inr (.inl rfl)
    | some t =>
      refine .inr (.inr ⟨t, rfl, ?_⟩)
      by_contra hc
      exact h ⟨hr, by simpa [ht] using hc⟩

/-- A command that is taken answers with its status and data on the state its body leaves. -/
theorem takeCommand_of_waits {s : State} (h : s.Waits) (c : Command) (body : State → Reply) :
    takeCommand c body s =
      .next
        { (body s).state with
          mp := { (body s).state.mp with transaction := some (.answered c (body s).status (body s).data) } } := by
  obtain ⟨a, t, ht, htt⟩ := h.transaction
  simp [takeCommand, live, a, ht, htt]

/-- A command outside a transaction, or after its command, is ignored. -/
theorem takeCommand_of_not_waits {s : State} (h : ¬ s.Waits) (c : Command) (body : State → Reply) :
    takeCommand c body s = .next s := by
  rcases not_waits h with hr | ht | ⟨t, ht, htt⟩
  · simp [takeCommand, live, hr]
  · simp [takeCommand, live, ht]
  · simp [takeCommand, live, ht, htt]

/-- A command whose body leaves the measurement link alone gives its state, answered. -/
theorem takeCommand_answer {s : State} (h : s.Waits) (c : Command) (body : State → Reply)
    (hm : (body s).state.mp = s.mp) :
    takeCommand c body s = .next ((body s).state.answer c.code c.arguments ((body s).status.code :: (body s).data)) ∧
      (body s).state.mp.selected = s.mp.selected := by
  rw [takeCommand_of_waits h]
  exact ⟨rfl, by rw [hm]⟩

/-! ## Transactions of the environment link -/

/-- The end of a write leaves everything but the assembler and the Refractivity Unit. -/
theorem endWrite_frame (s : State) :
    endWrite s = { s with refr := (endWrite s).refr, env := { s.env with message := none } } := by
  unfold endWrite
  split
  · rename_i h; simp [← h]
  · rfl

/-- A START at the part's own address, after the end of a write in progress, is taken. -/
theorem takeStart_own (addrPin : Bool) (taken : State → State) (s : State) :
    takeStart (linkAddress addrPin) addrPin taken s = taken (endWrite s) := by
  simp [takeStart]

/-- A START at another address ends a write in progress and is not acknowledged. -/
theorem takeStart_other {address : BitVec 7} {addrPin : Bool} (h : address ≠ linkAddress addrPin)
    (taken : State → State) (s : State) :
    takeStart address addrPin taken s =
      { s with refr := (endWrite s).refr, env := { s.env with message := none, acknowledged := 0 } } := by
  rw [takeStart, if_neg h, endWrite_frame]

/-! ## The bytes on MP_MISO, on SV_DOUT and of an environment read -/

theorem State.mpMiso_none {s : State} (h : s.mp.transaction = none) (k : Nat) : s.mpMiso k = 0x00 := by
  simp [State.mpMiso, h]

theorem State.mpMiso_some {s : State} {t : Transaction} (h : s.mp.transaction = some t) (k : Nat) :
    s.mpMiso k = t.shiftOut k := by
  simp [State.mpMiso, h]

/-- 0x00 goes out while the command byte and its argument bytes come in. -/
theorem Transaction.shiftOut_arguments (t : Transaction) {k : Nat} (h : k < 1 + t.arguments) : t.shiftOut k = 0x00 := by
  simp [Transaction.shiftOut, h]

/-- The answer goes out after them, and 0x00 after its last byte. -/
theorem Transaction.shiftOut_answer (t : Transaction) (k : Nat) :
    t.shiftOut (1 + t.arguments + k) = t.out.getD k 0x00 := by
  simp [Transaction.shiftOut]

theorem State.svDout_none {s : State} (h : s.sv.frame = none) (k : Nat) : s.svDout k = 0x00 := by
  simp [State.svDout, h]

theorem State.svDout_some {s : State} {f : Frame} (h : s.sv.frame = some f) (k : Nat) :
    s.svDout k = f.bytes.getD k 0x00 := by
  simp [State.svDout, h]

end Sys2Proof.Machine
end

