-- ==== Sys2Proof/Laws/Fields.lean ====
section
/-! SUPPORT. The fields that each operation leaves alone, one lemma per field, read off the frame equations. -/

namespace Sys2Proof.Machine

/-! ## acceptCapture -/

@[simp] theorem acceptCapture_pending (kind : CaptureKind) (latch : Latch) (s : State) :
    (acceptCapture kind latch s).pending = s.pending := by rw [acceptCapture_frame]
@[simp] theorem acceptCapture_resetLow (kind : CaptureKind) (latch : Latch) (s : State) :
    (acceptCapture kind latch s).resetLow = s.resetLow := by rw [acceptCapture_frame]
@[simp] theorem acceptCapture_samplePort (kind : CaptureKind) (latch : Latch) (s : State) :
    (acceptCapture kind latch s).samplePort = s.samplePort := by rw [acceptCapture_frame]
@[simp] theorem acceptCapture_params (kind : CaptureKind) (latch : Latch) (s : State) :
    (acceptCapture kind latch s).params = s.params := by rw [acceptCapture_frame]
@[simp] theorem acceptCapture_channels (kind : CaptureKind) (latch : Latch) (s : State) :
    (acceptCapture kind latch s).channels = s.channels := by rw [acceptCapture_frame]
@[simp] theorem acceptCapture_lock (kind : CaptureKind) (latch : Latch) (s : State) :
    (acceptCapture kind latch s).lock = s.lock := by rw [acceptCapture_frame]
@[simp] theorem acceptCapture_refr (kind : CaptureKind) (latch : Latch) (s : State) :
    (acceptCapture kind latch s).refr = s.refr := by rw [acceptCapture_frame]
@[simp] theorem acceptCapture_axes (kind : CaptureKind) (latch : Latch) (s : State) :
    (acceptCapture kind latch s).axes = s.axes := by rw [acceptCapture_frame]
@[simp] theorem acceptCapture_slots (kind : CaptureKind) (latch : Latch) (s : State) :
    (acceptCapture kind latch s).slots = s.slots := by rw [acceptCapture_frame]
@[simp] theorem acceptCapture_motion (kind : CaptureKind) (latch : Latch) (s : State) :
    (acceptCapture kind latch s).motion = s.motion := by rw [acceptCapture_frame]
@[simp] theorem acceptCapture_due (kind : CaptureKind) (latch : Latch) (s : State) :
    (acceptCapture kind latch s).due = s.due := by rw [acceptCapture_frame]
@[simp] theorem acceptCapture_matcher (kind : CaptureKind) (latch : Latch) (s : State) :
    (acceptCapture kind latch s).matcher = s.matcher := by rw [acceptCapture_frame]
@[simp] theorem acceptCapture_scan (kind : CaptureKind) (latch : Latch) (s : State) :
    (acceptCapture kind latch s).scan = s.scan := by rw [acceptCapture_frame]
@[simp] theorem acceptCapture_hold (kind : CaptureKind) (latch : Latch) (s : State) :
    (acceptCapture kind latch s).hold = s.hold := by rw [acceptCapture_frame]
@[simp] theorem acceptCapture_exc (kind : CaptureKind) (latch : Latch) (s : State) :
    (acceptCapture kind latch s).exc = s.exc := by rw [acceptCapture_frame]
@[simp] theorem acceptCapture_mp (kind : CaptureKind) (latch : Latch) (s : State) :
    (acceptCapture kind latch s).mp = s.mp := by rw [acceptCapture_frame]
@[simp] theorem acceptCapture_sv (kind : CaptureKind) (latch : Latch) (s : State) :
    (acceptCapture kind latch s).sv = s.sv := by rw [acceptCapture_frame]
@[simp] theorem acceptCapture_env (kind : CaptureKind) (latch : Latch) (s : State) :
    (acceptCapture kind latch s).env = s.env := by rw [acceptCapture_frame]
@[simp] theorem acceptCapture_gen (kind : CaptureKind) (latch : Latch) (s : State) :
    (acceptCapture kind latch s).gen = s.gen := by rw [acceptCapture_frame]
@[simp] theorem acceptCapture_mask (kind : CaptureKind) (latch : Latch) (s : State) :
    (acceptCapture kind latch s).events.mask = s.events.mask := by rw [acceptCapture_frame]
@[simp] theorem acceptCapture_mainHead (kind : CaptureKind) (latch : Latch) (s : State) :
    (acceptCapture kind latch s).main.headUnderRead = s.main.headUnderRead := by rw [acceptCapture_frame]
@[simp] theorem acceptCapture_mainRecords (kind : CaptureKind) (latch : Latch) (s : State) :
    (acceptCapture kind latch s).main.records = s.main.records := by rw [acceptCapture_frame]

/-! ## holdCompare -/

@[simp] theorem holdCompare_pending (s : State) :
    (holdCompare s).pending = s.pending := by rw [holdCompare_frame]
@[simp] theorem holdCompare_resetLow (s : State) :
    (holdCompare s).resetLow = s.resetLow := by rw [holdCompare_frame]
@[simp] theorem holdCompare_samplePort (s : State) :
    (holdCompare s).samplePort = s.samplePort := by rw [holdCompare_frame]
@[simp] theorem holdCompare_params (s : State) :
    (holdCompare s).params = s.params := by rw [holdCompare_frame]
@[simp] theorem holdCompare_channels (s : State) :
    (holdCompare s).channels = s.channels := by rw [holdCompare_frame]
@[simp] theorem holdCompare_lock (s : State) :
    (holdCompare s).lock = s.lock := by rw [holdCompare_frame]
@[simp] theorem holdCompare_refr (s : State) :
    (holdCompare s).refr = s.refr := by rw [holdCompare_frame]
@[simp] theorem holdCompare_axes (s : State) :
    (holdCompare s).axes = s.axes := by rw [holdCompare_frame]
@[simp] theorem holdCompare_slots (s : State) :
    (holdCompare s).slots = s.slots := by rw [holdCompare_frame]
@[simp] theorem holdCompare_motion (s : State) :
    (holdCompare s).motion = s.motion := by rw [holdCompare_frame]
@[simp] theorem holdCompare_due (s : State) :
    (holdCompare s).due = s.due := by rw [holdCompare_frame]
@[simp] theorem holdCompare_capture (s : State) :
    (holdCompare s).capture = s.capture := by rw [holdCompare_frame]
@[simp] theorem holdCompare_matcher (s : State) :
    (holdCompare s).matcher = s.matcher := by rw [holdCompare_frame]
@[simp] theorem holdCompare_scan (s : State) :
    (holdCompare s).scan = s.scan := by rw [holdCompare_frame]
@[simp] theorem holdCompare_main (s : State) :
    (holdCompare s).main = s.main := by rw [holdCompare_frame]
@[simp] theorem holdCompare_exc (s : State) :
    (holdCompare s).exc = s.exc := by rw [holdCompare_frame]
@[simp] theorem holdCompare_events (s : State) :
    (holdCompare s).events = s.events := by rw [holdCompare_frame]
@[simp] theorem holdCompare_mp (s : State) :
    (holdCompare s).mp = s.mp := by rw [holdCompare_frame]
@[simp] theorem holdCompare_sv (s : State) :
    (holdCompare s).sv = s.sv := by rw [holdCompare_frame]
@[simp] theorem holdCompare_env (s : State) :
    (holdCompare s).env = s.env := by rw [holdCompare_frame]
@[simp] theorem holdCompare_gen (s : State) :
    (holdCompare s).gen = s.gen := by rw [holdCompare_frame]
@[simp] theorem holdCompare_mask (s : State) :
    (holdCompare s).events.mask = s.events.mask := by rw [holdCompare_frame]

/-! ## handToMain -/

@[simp] theorem handToMain_pending (r : Record) (s : State) :
    (handToMain r s).pending = s.pending := by rw [handToMain_frame]
@[simp] theorem handToMain_resetLow (r : Record) (s : State) :
    (handToMain r s).resetLow = s.resetLow := by rw [handToMain_frame]
@[simp] theorem handToMain_samplePort (r : Record) (s : State) :
    (handToMain r s).samplePort = s.samplePort := by rw [handToMain_frame]
@[simp] theorem handToMain_params (r : Record) (s : State) :
    (handToMain r s).params = s.params := by rw [handToMain_frame]
@[simp] theorem handToMain_channels (r : Record) (s : State) :
    (handToMain r s).channels = s.channels := by rw [handToMain_frame]
@[simp] theorem handToMain_lock (r : Record) (s : State) :
    (handToMain r s).lock = s.lock := by rw [handToMain_frame]
@[simp] theorem handToMain_refr (r : Record) (s : State) :
    (handToMain r s).refr = s.refr := by rw [handToMain_frame]
@[simp] theorem handToMain_axes (r : Record) (s : State) :
    (handToMain r s).axes = s.axes := by rw [handToMain_frame]
@[simp] theorem handToMain_slots (r : Record) (s : State) :
    (handToMain r s).slots = s.slots := by rw [handToMain_frame]
@[simp] theorem handToMain_motion (r : Record) (s : State) :
    (handToMain r s).motion = s.motion := by rw [handToMain_frame]
@[simp] theorem handToMain_due (r : Record) (s : State) :
    (handToMain r s).due = s.due := by rw [handToMain_frame]
@[simp] theorem handToMain_capture (r : Record) (s : State) :
    (handToMain r s).capture = s.capture := by rw [handToMain_frame]
@[simp] theorem handToMain_matcher (r : Record) (s : State) :
    (handToMain r s).matcher = s.matcher := by rw [handToMain_frame]
@[simp] theorem handToMain_scan (r : Record) (s : State) :
    (handToMain r s).scan = s.scan := by rw [handToMain_frame]
@[simp] theorem handToMain_exc (r : Record) (s : State) :
    (handToMain r s).exc = s.exc := by rw [handToMain_frame]
@[simp] theorem handToMain_mp (r : Record) (s : State) :
    (handToMain r s).mp = s.mp := by rw [handToMain_frame]
@[simp] theorem handToMain_sv (r : Record) (s : State) :
    (handToMain r s).sv = s.sv := by rw [handToMain_frame]
@[simp] theorem handToMain_env (r : Record) (s : State) :
    (handToMain r s).env = s.env := by rw [handToMain_frame]
@[simp] theorem handToMain_gen (r : Record) (s : State) :
    (handToMain r s).gen = s.gen := by rw [handToMain_frame]
@[simp] theorem handToMain_mask (r : Record) (s : State) :
    (handToMain r s).events.mask = s.events.mask := by rw [handToMain_frame]
@[simp] theorem handToMain_mainHead (r : Record) (s : State) :
    (handToMain r s).main.headUnderRead = s.main.headUnderRead := by rw [handToMain_frame]

/-! ## handToException -/

@[simp] theorem handToException_pending (r : Record) (s : State) :
    (handToException r s).pending = s.pending := by rw [handToException_frame]
@[simp] theorem handToException_resetLow (r : Record) (s : State) :
    (handToException r s).resetLow = s.resetLow := by rw [handToException_frame]
@[simp] theorem handToException_samplePort (r : Record) (s : State) :
    (handToException r s).samplePort = s.samplePort := by rw [handToException_frame]
@[simp] theorem handToException_params (r : Record) (s : State) :
    (handToException r s).params = s.params := by rw [handToException_frame]
@[simp] theorem handToException_channels (r : Record) (s : State) :
    (handToException r s).channels = s.channels := by rw [handToException_frame]
@[simp] theorem handToException_lock (r : Record) (s : State) :
    (handToException r s).lock = s.lock := by rw [handToException_frame]
@[simp] theorem handToException_refr (r : Record) (s : State) :
    (handToException r s).refr = s.refr := by rw [handToException_frame]
@[simp] theorem handToException_axes (r : Record) (s : State) :
    (handToException r s).axes = s.axes := by rw [handToException_frame]
@[simp] theorem handToException_slots (r : Record) (s : State) :
    (handToException r s).slots = s.slots := by rw [handToException_frame]
@[simp] theorem handToException_motion (r : Record) (s : State) :
    (handToException r s).motion = s.motion := by rw [handToException_frame]
@[simp] theorem handToException_due (r : Record) (s : State) :
    (handToException r s).due = s.due := by rw [handToException_frame]
@[simp] theorem handToException_capture (r : Record) (s : State) :
    (handToException r s).capture = s.capture := by rw [handToException_frame]
@[simp] theorem handToException_matcher (r : Record) (s : State) :
    (handToException r s).matcher = s.matcher := by rw [handToException_frame]
@[simp] theorem handToException_scan (r : Record) (s : State) :
    (handToException r s).scan = s.scan := by rw [handToException_frame]
@[simp] theorem handToException_hold (r : Record) (s : State) :
    (handToException r s).hold = s.hold := by rw [handToException_frame]
@[simp] theorem handToException_main (r : Record) (s : State) :
    (handToException r s).main = s.main := by rw [handToException_frame]
@[simp] theorem handToException_mp (r : Record) (s : State) :
    (handToException r s).mp = s.mp := by rw [handToException_frame]
@[simp] theorem handToException_sv (r : Record) (s : State) :
    (handToException r s).sv = s.sv := by rw [handToException_frame]
@[simp] theorem handToException_env (r : Record) (s : State) :
    (handToException r s).env = s.env := by rw [handToException_frame]
@[simp] theorem handToException_gen (r : Record) (s : State) :
    (handToException r s).gen = s.gen := by rw [handToException_frame]
@[simp] theorem handToException_mask (r : Record) (s : State) :
    (handToException r s).events.mask = s.events.mask := by rw [handToException_frame]
@[simp] theorem handToException_excHead (r : Record) (s : State) :
    (handToException r s).exc.headUnderRead = s.exc.headUnderRead := by rw [handToException_frame]

/-! ## endScan -/

@[simp] theorem endScan_pending (cause : EndCause) (s : State) :
    (endScan cause s).pending = s.pending := by rw [endScan_frame]
@[simp] theorem endScan_resetLow (cause : EndCause) (s : State) :
    (endScan cause s).resetLow = s.resetLow := by rw [endScan_frame]
@[simp] theorem endScan_samplePort (cause : EndCause) (s : State) :
    (endScan cause s).samplePort = s.samplePort := by rw [endScan_frame]
@[simp] theorem endScan_params (cause : EndCause) (s : State) :
    (endScan cause s).params = s.params := by rw [endScan_frame]
@[simp] theorem endScan_channels (cause : EndCause) (s : State) :
    (endScan cause s).channels = s.channels := by rw [endScan_frame]
@[simp] theorem endScan_lock (cause : EndCause) (s : State) :
    (endScan cause s).lock = s.lock := by rw [endScan_frame]
@[simp] theorem endScan_refr (cause : EndCause) (s : State) :
    (endScan cause s).refr = s.refr := by rw [endScan_frame]
@[simp] theorem endScan_axes (cause : EndCause) (s : State) :
    (endScan cause s).axes = s.axes := by rw [endScan_frame]
@[simp] theorem endScan_motion (cause : EndCause) (s : State) :
    (endScan cause s).motion = s.motion := by rw [endScan_frame]
@[simp] theorem endScan_due (cause : EndCause) (s : State) :
    (endScan cause s).due = s.due := by rw [endScan_frame]
@[simp] theorem endScan_matcher (cause : EndCause) (s : State) :
    (endScan cause s).matcher = s.matcher := by rw [endScan_frame]
@[simp] theorem endScan_hold (cause : EndCause) (s : State) :
    (endScan cause s).hold = s.hold := by rw [endScan_frame]
@[simp] theorem endScan_exc (cause : EndCause) (s : State) :
    (endScan cause s).exc = s.exc := by rw [endScan_frame]
@[simp] theorem endScan_mp (cause : EndCause) (s : State) :
    (endScan cause s).mp = s.mp := by rw [endScan_frame]
@[simp] theorem endScan_sv (cause : EndCause) (s : State) :
    (endScan cause s).sv = s.sv := by rw [endScan_frame]
@[simp] theorem endScan_env (cause : EndCause) (s : State) :
    (endScan cause s).env = s.env := by rw [endScan_frame]
@[simp] theorem endScan_gen (cause : EndCause) (s : State) :
    (endScan cause s).gen = s.gen := by rw [endScan_frame]
@[simp] theorem endScan_mask (cause : EndCause) (s : State) :
    (endScan cause s).events.mask = s.events.mask := by rw [endScan_frame]
@[simp] theorem endScan_mainHead (cause : EndCause) (s : State) :
    (endScan cause s).main.headUnderRead = s.main.headUnderRead := by rw [endScan_frame]
@[simp] theorem endScan_mainRecords (cause : EndCause) (s : State) :
    (endScan cause s).main.records = s.main.records := by rw [endScan_frame]

/-! ## setChannels -/

@[simp] theorem setChannels_pending (after : Four Channel) (s : State) :
    (setChannels after s).pending = s.pending := by rw [setChannels_frame]
@[simp] theorem setChannels_resetLow (after : Four Channel) (s : State) :
    (setChannels after s).resetLow = s.resetLow := by rw [setChannels_frame]
@[simp] theorem setChannels_samplePort (after : Four Channel) (s : State) :
    (setChannels after s).samplePort = s.samplePort := by rw [setChannels_frame]
@[simp] theorem setChannels_params (after : Four Channel) (s : State) :
    (setChannels after s).params = s.params := by rw [setChannels_frame]
@[simp] theorem setChannels_lock (after : Four Channel) (s : State) :
    (setChannels after s).lock = s.lock := by rw [setChannels_frame]
@[simp] theorem setChannels_refr (after : Four Channel) (s : State) :
    (setChannels after s).refr = s.refr := by rw [setChannels_frame]
@[simp] theorem setChannels_motion (after : Four Channel) (s : State) :
    (setChannels after s).motion = s.motion := by rw [setChannels_frame]
@[simp] theorem setChannels_due (after : Four Channel) (s : State) :
    (setChannels after s).due = s.due := by rw [setChannels_frame]
@[simp] theorem setChannels_matcher (after : Four Channel) (s : State) :
    (setChannels after s).matcher = s.matcher := by rw [setChannels_frame]
@[simp] theorem setChannels_hold (after : Four Channel) (s : State) :
    (setChannels after s).hold = s.hold := by rw [setChannels_frame]
@[simp] theorem setChannels_exc (after : Four Channel) (s : State) :
    (setChannels after s).exc = s.exc := by rw [setChannels_frame]
@[simp] theorem setChannels_mp (after : Four Channel) (s : State) :
    (setChannels after s).mp = s.mp := by rw [setChannels_frame]
@[simp] theorem setChannels_sv (after : Four Channel) (s : State) :
    (setChannels after s).sv = s.sv := by rw [setChannels_frame]
@[simp] theorem setChannels_env (after : Four Channel) (s : State) :
    (setChannels after s).env = s.env := by rw [setChannels_frame]
@[simp] theorem setChannels_gen (after : Four Channel) (s : State) :
    (setChannels after s).gen = s.gen := by rw [setChannels_frame]
@[simp] theorem setChannels_mask (after : Four Channel) (s : State) :
    (setChannels after s).events.mask = s.events.mask := by rw [setChannels_frame]
@[simp] theorem setChannels_mainHead (after : Four Channel) (s : State) :
    (setChannels after s).main.headUnderRead = s.main.headUnderRead := by rw [setChannels_frame]
@[simp] theorem setChannels_mainRecords (after : Four Channel) (s : State) :
    (setChannels after s).main.records = s.main.records := by rw [setChannels_frame]

/-! ## applyDatums -/

@[simp] theorem applyDatums_pending (chosen : Fin 4 → Bool) (s : State) :
    (applyDatums chosen s).pending = s.pending := by rw [applyDatums_frame]
@[simp] theorem applyDatums_resetLow (chosen : Fin 4 → Bool) (s : State) :
    (applyDatums chosen s).resetLow = s.resetLow := by rw [applyDatums_frame]
@[simp] theorem applyDatums_samplePort (chosen : Fin 4 → Bool) (s : State) :
    (applyDatums chosen s).samplePort = s.samplePort := by rw [applyDatums_frame]
@[simp] theorem applyDatums_params (chosen : Fin 4 → Bool) (s : State) :
    (applyDatums chosen s).params = s.params := by rw [applyDatums_frame]
@[simp] theorem applyDatums_channels (chosen : Fin 4 → Bool) (s : State) :
    (applyDatums chosen s).channels = s.channels := by rw [applyDatums_frame]
@[simp] theorem applyDatums_lock (chosen : Fin 4 → Bool) (s : State) :
    (applyDatums chosen s).lock = s.lock := by rw [applyDatums_frame]
@[simp] theorem applyDatums_refr (chosen : Fin 4 → Bool) (s : State) :
    (applyDatums chosen s).refr = s.refr := by rw [applyDatums_frame]
@[simp] theorem applyDatums_motion (chosen : Fin 4 → Bool) (s : State) :
    (applyDatums chosen s).motion = s.motion := by rw [applyDatums_frame]
@[simp] theorem applyDatums_due (chosen : Fin 4 → Bool) (s : State) :
    (applyDatums chosen s).due = s.due := by rw [applyDatums_frame]
@[simp] theorem applyDatums_matcher (chosen : Fin 4 → Bool) (s : State) :
    (applyDatums chosen s).matcher = s.matcher := by rw [applyDatums_frame]
@[simp] theorem applyDatums_scan (chosen : Fin 4 → Bool) (s : State) :
    (applyDatums chosen s).scan = s.scan := by rw [applyDatums_frame]
@[simp] theorem applyDatums_hold (chosen : Fin 4 → Bool) (s : State) :
    (applyDatums chosen s).hold = s.hold := by rw [applyDatums_frame]
@[simp] theorem applyDatums_exc (chosen : Fin 4 → Bool) (s : State) :
    (applyDatums chosen s).exc = s.exc := by rw [applyDatums_frame]
@[simp] theorem applyDatums_mp (chosen : Fin 4 → Bool) (s : State) :
    (applyDatums chosen s).mp = s.mp := by rw [applyDatums_frame]
@[simp] theorem applyDatums_sv (chosen : Fin 4 → Bool) (s : State) :
    (applyDatums chosen s).sv = s.sv := by rw [applyDatums_frame]
@[simp] theorem applyDatums_env (chosen : Fin 4 → Bool) (s : State) :
    (applyDatums chosen s).env = s.env := by rw [applyDatums_frame]
@[simp] theorem applyDatums_gen (chosen : Fin 4 → Bool) (s : State) :
    (applyDatums chosen s).gen = s.gen := by rw [applyDatums_frame]
@[simp] theorem applyDatums_mask (chosen : Fin 4 → Bool) (s : State) :
    (applyDatums chosen s).events.mask = s.events.mask := by rw [applyDatums_frame]
@[simp] theorem applyDatums_mainHead (chosen : Fin 4 → Bool) (s : State) :
    (applyDatums chosen s).main.headUnderRead = s.main.headUnderRead := by rw [applyDatums_frame]
@[simp] theorem applyDatums_mainRecords (chosen : Fin 4 → Bool) (s : State) :
    (applyDatums chosen s).main.records = s.main.records := by rw [applyDatums_frame]

/-! ## applyStore -/

@[simp] theorem applyStore_pending (q : Param) (p : Params) (s : State) :
    (applyStore q p s).pending = s.pending := by rw [applyStore_frame]
@[simp] theorem applyStore_resetLow (q : Param) (p : Params) (s : State) :
    (applyStore q p s).resetLow = s.resetLow := by rw [applyStore_frame]
@[simp] theorem applyStore_samplePort (q : Param) (p : Params) (s : State) :
    (applyStore q p s).samplePort = s.samplePort := by rw [applyStore_frame]
@[simp] theorem applyStore_channels (q : Param) (p : Params) (s : State) :
    (applyStore q p s).channels = s.channels := by rw [applyStore_frame]
@[simp] theorem applyStore_lock (q : Param) (p : Params) (s : State) :
    (applyStore q p s).lock = s.lock := by rw [applyStore_frame]
@[simp] theorem applyStore_refr (q : Param) (p : Params) (s : State) :
    (applyStore q p s).refr = s.refr := by rw [applyStore_frame]
@[simp] theorem applyStore_due (q : Param) (p : Params) (s : State) :
    (applyStore q p s).due = s.due := by rw [applyStore_frame]
@[simp] theorem applyStore_matcher (q : Param) (p : Params) (s : State) :
    (applyStore q p s).matcher = s.matcher := by rw [applyStore_frame]
@[simp] theorem applyStore_exc (q : Param) (p : Params) (s : State) :
    (applyStore q p s).exc = s.exc := by rw [applyStore_frame]
@[simp] theorem applyStore_mp (q : Param) (p : Params) (s : State) :
    (applyStore q p s).mp = s.mp := by rw [applyStore_frame]
@[simp] theorem applyStore_sv (q : Param) (p : Params) (s : State) :
    (applyStore q p s).sv = s.sv := by rw [applyStore_frame]
@[simp] theorem applyStore_env (q : Param) (p : Params) (s : State) :
    (applyStore q p s).env = s.env := by rw [applyStore_frame]
@[simp] theorem applyStore_gen (q : Param) (p : Params) (s : State) :
    (applyStore q p s).gen = s.gen := by rw [applyStore_frame]
@[simp] theorem applyStore_mask (q : Param) (p : Params) (s : State) :
    (applyStore q p s).events.mask = s.events.mask := by rw [applyStore_frame]
@[simp] theorem applyStore_mainHead (q : Param) (p : Params) (s : State) :
    (applyStore q p s).main.headUnderRead = s.main.headUnderRead := by rw [applyStore_frame]
@[simp] theorem applyStore_mainRecords (q : Param) (p : Params) (s : State) :
    (applyStore q p s).main.records = s.main.records := by rw [applyStore_frame]

/-! ## refrArrive -/

@[simp] theorem refrArrive_pending (s : State) :
    (refrArrive s).pending = s.pending := by rw [refrArrive_frame]
@[simp] theorem refrArrive_resetLow (s : State) :
    (refrArrive s).resetLow = s.resetLow := by rw [refrArrive_frame]
@[simp] theorem refrArrive_samplePort (s : State) :
    (refrArrive s).samplePort = s.samplePort := by rw [refrArrive_frame]
@[simp] theorem refrArrive_params (s : State) :
    (refrArrive s).params = s.params := by rw [refrArrive_frame]
@[simp] theorem refrArrive_channels (s : State) :
    (refrArrive s).channels = s.channels := by rw [refrArrive_frame]
@[simp] theorem refrArrive_lock (s : State) :
    (refrArrive s).lock = s.lock := by rw [refrArrive_frame]
@[simp] theorem refrArrive_axes (s : State) :
    (refrArrive s).axes = s.axes := by rw [refrArrive_frame]
@[simp] theorem refrArrive_slots (s : State) :
    (refrArrive s).slots = s.slots := by rw [refrArrive_frame]
@[simp] theorem refrArrive_motion (s : State) :
    (refrArrive s).motion = s.motion := by rw [refrArrive_frame]
@[simp] theorem refrArrive_due (s : State) :
    (refrArrive s).due = s.due := by rw [refrArrive_frame]
@[simp] theorem refrArrive_capture (s : State) :
    (refrArrive s).capture = s.capture := by rw [refrArrive_frame]
@[simp] theorem refrArrive_matcher (s : State) :
    (refrArrive s).matcher = s.matcher := by rw [refrArrive_frame]
@[simp] theorem refrArrive_scan (s : State) :
    (refrArrive s).scan = s.scan := by rw [refrArrive_frame]
@[simp] theorem refrArrive_hold (s : State) :
    (refrArrive s).hold = s.hold := by rw [refrArrive_frame]
@[simp] theorem refrArrive_main (s : State) :
    (refrArrive s).main = s.main := by rw [refrArrive_frame]
@[simp] theorem refrArrive_exc (s : State) :
    (refrArrive s).exc = s.exc := by rw [refrArrive_frame]
@[simp] theorem refrArrive_mp (s : State) :
    (refrArrive s).mp = s.mp := by rw [refrArrive_frame]
@[simp] theorem refrArrive_sv (s : State) :
    (refrArrive s).sv = s.sv := by rw [refrArrive_frame]
@[simp] theorem refrArrive_env (s : State) :
    (refrArrive s).env = s.env := by rw [refrArrive_frame]
@[simp] theorem refrArrive_gen (s : State) :
    (refrArrive s).gen = s.gen := by rw [refrArrive_frame]
@[simp] theorem refrArrive_mask (s : State) :
    (refrArrive s).events.mask = s.events.mask := by rw [refrArrive_frame]

/-! ## frontEnd -/

@[simp] theorem frontEnd_pending (values : List (BitVec 16)) (s : State) :
    (frontEnd values s).pending = s.pending := by rw [frontEnd_frame]
@[simp] theorem frontEnd_resetLow (values : List (BitVec 16)) (s : State) :
    (frontEnd values s).resetLow = s.resetLow := by rw [frontEnd_frame]
@[simp] theorem frontEnd_samplePort (values : List (BitVec 16)) (s : State) :
    (frontEnd values s).samplePort = s.samplePort := by rw [frontEnd_frame]
@[simp] theorem frontEnd_params (values : List (BitVec 16)) (s : State) :
    (frontEnd values s).params = s.params := by rw [frontEnd_frame]
@[simp] theorem frontEnd_lock (values : List (BitVec 16)) (s : State) :
    (frontEnd values s).lock = s.lock := by rw [frontEnd_frame]
@[simp] theorem frontEnd_refr (values : List (BitVec 16)) (s : State) :
    (frontEnd values s).refr = s.refr := by rw [frontEnd_frame]
@[simp] theorem frontEnd_motion (values : List (BitVec 16)) (s : State) :
    (frontEnd values s).motion = s.motion := by rw [frontEnd_frame]
@[simp] theorem frontEnd_due (values : List (BitVec 16)) (s : State) :
    (frontEnd values s).due = s.due := by rw [frontEnd_frame]
@[simp] theorem frontEnd_matcher (values : List (BitVec 16)) (s : State) :
    (frontEnd values s).matcher = s.matcher := by rw [frontEnd_frame]
@[simp] theorem frontEnd_hold (values : List (BitVec 16)) (s : State) :
    (frontEnd values s).hold = s.hold := by rw [frontEnd_frame]
@[simp] theorem frontEnd_exc (values : List (BitVec 16)) (s : State) :
    (frontEnd values s).exc = s.exc := by rw [frontEnd_frame]
@[simp] theorem frontEnd_mp (values : List (BitVec 16)) (s : State) :
    (frontEnd values s).mp = s.mp := by rw [frontEnd_frame]
@[simp] theorem frontEnd_sv (values : List (BitVec 16)) (s : State) :
    (frontEnd values s).sv = s.sv := by rw [frontEnd_frame]
@[simp] theorem frontEnd_env (values : List (BitVec 16)) (s : State) :
    (frontEnd values s).env = s.env := by rw [frontEnd_frame]
@[simp] theorem frontEnd_mask (values : List (BitVec 16)) (s : State) :
    (frontEnd values s).events.mask = s.events.mask := by rw [frontEnd_frame]
@[simp] theorem frontEnd_mainHead (values : List (BitVec 16)) (s : State) :
    (frontEnd values s).main.headUnderRead = s.main.headUnderRead := by rw [frontEnd_frame]
@[simp] theorem frontEnd_mainRecords (values : List (BitVec 16)) (s : State) :
    (frontEnd values s).main.records = s.main.records := by rw [frontEnd_frame]

/-! ## lockArrive -/

@[simp] theorem lockArrive_pending (high : Bool) (s : State) :
    (lockArrive high s).pending = s.pending := by rw [lockArrive_frame]
@[simp] theorem lockArrive_resetLow (high : Bool) (s : State) :
    (lockArrive high s).resetLow = s.resetLow := by rw [lockArrive_frame]
@[simp] theorem lockArrive_samplePort (high : Bool) (s : State) :
    (lockArrive high s).samplePort = s.samplePort := by rw [lockArrive_frame]
@[simp] theorem lockArrive_params (high : Bool) (s : State) :
    (lockArrive high s).params = s.params := by rw [lockArrive_frame]
@[simp] theorem lockArrive_channels (high : Bool) (s : State) :
    (lockArrive high s).channels = s.channels := by rw [lockArrive_frame]
@[simp] theorem lockArrive_refr (high : Bool) (s : State) :
    (lockArrive high s).refr = s.refr := by rw [lockArrive_frame]
@[simp] theorem lockArrive_axes (high : Bool) (s : State) :
    (lockArrive high s).axes = s.axes := by rw [lockArrive_frame]
@[simp] theorem lockArrive_motion (high : Bool) (s : State) :
    (lockArrive high s).motion = s.motion := by rw [lockArrive_frame]
@[simp] theorem lockArrive_due (high : Bool) (s : State) :
    (lockArrive high s).due = s.due := by rw [lockArrive_frame]
@[simp] theorem lockArrive_matcher (high : Bool) (s : State) :
    (lockArrive high s).matcher = s.matcher := by rw [lockArrive_frame]
@[simp] theorem lockArrive_hold (high : Bool) (s : State) :
    (lockArrive high s).hold = s.hold := by rw [lockArrive_frame]
@[simp] theorem lockArrive_exc (high : Bool) (s : State) :
    (lockArrive high s).exc = s.exc := by rw [lockArrive_frame]
@[simp] theorem lockArrive_mp (high : Bool) (s : State) :
    (lockArrive high s).mp = s.mp := by rw [lockArrive_frame]
@[simp] theorem lockArrive_sv (high : Bool) (s : State) :
    (lockArrive high s).sv = s.sv := by rw [lockArrive_frame]
@[simp] theorem lockArrive_env (high : Bool) (s : State) :
    (lockArrive high s).env = s.env := by rw [lockArrive_frame]
@[simp] theorem lockArrive_gen (high : Bool) (s : State) :
    (lockArrive high s).gen = s.gen := by rw [lockArrive_frame]
@[simp] theorem lockArrive_mask (high : Bool) (s : State) :
    (lockArrive high s).events.mask = s.events.mask := by rw [lockArrive_frame]
@[simp] theorem lockArrive_mainHead (high : Bool) (s : State) :
    (lockArrive high s).main.headUnderRead = s.main.headUnderRead := by rw [lockArrive_frame]
@[simp] theorem lockArrive_mainRecords (high : Bool) (s : State) :
    (lockArrive high s).main.records = s.main.records := by rw [lockArrive_frame]

/-! ## countArrival -/

@[simp] theorem countArrival_pending (s : State) :
    (countArrival s).pending = s.pending := by rw [countArrival_frame]
@[simp] theorem countArrival_resetLow (s : State) :
    (countArrival s).resetLow = s.resetLow := by rw [countArrival_frame]
@[simp] theorem countArrival_samplePort (s : State) :
    (countArrival s).samplePort = s.samplePort := by rw [countArrival_frame]
@[simp] theorem countArrival_params (s : State) :
    (countArrival s).params = s.params := by rw [countArrival_frame]
@[simp] theorem countArrival_channels (s : State) :
    (countArrival s).channels = s.channels := by rw [countArrival_frame]
@[simp] theorem countArrival_lock (s : State) :
    (countArrival s).lock = s.lock := by rw [countArrival_frame]
@[simp] theorem countArrival_axes (s : State) :
    (countArrival s).axes = s.axes := by rw [countArrival_frame]
@[simp] theorem countArrival_slots (s : State) :
    (countArrival s).slots = s.slots := by rw [countArrival_frame]
@[simp] theorem countArrival_capture (s : State) :
    (countArrival s).capture = s.capture := by rw [countArrival_frame]
@[simp] theorem countArrival_matcher (s : State) :
    (countArrival s).matcher = s.matcher := by rw [countArrival_frame]
@[simp] theorem countArrival_scan (s : State) :
    (countArrival s).scan = s.scan := by rw [countArrival_frame]
@[simp] theorem countArrival_hold (s : State) :
    (countArrival s).hold = s.hold := by rw [countArrival_frame]
@[simp] theorem countArrival_main (s : State) :
    (countArrival s).main = s.main := by rw [countArrival_frame]
@[simp] theorem countArrival_exc (s : State) :
    (countArrival s).exc = s.exc := by rw [countArrival_frame]
@[simp] theorem countArrival_mp (s : State) :
    (countArrival s).mp = s.mp := by rw [countArrival_frame]
@[simp] theorem countArrival_sv (s : State) :
    (countArrival s).sv = s.sv := by rw [countArrival_frame]
@[simp] theorem countArrival_env (s : State) :
    (countArrival s).env = s.env := by rw [countArrival_frame]
@[simp] theorem countArrival_gen (s : State) :
    (countArrival s).gen = s.gen := by rw [countArrival_frame]
@[simp] theorem countArrival_mask (s : State) :
    (countArrival s).events.mask = s.events.mask := by rw [countArrival_frame]

/-! ## takeGateEndRefr -/

@[simp] theorem takeGateEndRefr_pending (s : State) :
    (takeGateEndRefr s).pending = s.pending := by rw [takeGateEndRefr_frame]
@[simp] theorem takeGateEndRefr_resetLow (s : State) :
    (takeGateEndRefr s).resetLow = s.resetLow := by rw [takeGateEndRefr_frame]
@[simp] theorem takeGateEndRefr_samplePort (s : State) :
    (takeGateEndRefr s).samplePort = s.samplePort := by rw [takeGateEndRefr_frame]
@[simp] theorem takeGateEndRefr_params (s : State) :
    (takeGateEndRefr s).params = s.params := by rw [takeGateEndRefr_frame]
@[simp] theorem takeGateEndRefr_channels (s : State) :
    (takeGateEndRefr s).channels = s.channels := by rw [takeGateEndRefr_frame]
@[simp] theorem takeGateEndRefr_lock (s : State) :
    (takeGateEndRefr s).lock = s.lock := by rw [takeGateEndRefr_frame]
@[simp] theorem takeGateEndRefr_axes (s : State) :
    (takeGateEndRefr s).axes = s.axes := by rw [takeGateEndRefr_frame]
@[simp] theorem takeGateEndRefr_slots (s : State) :
    (takeGateEndRefr s).slots = s.slots := by rw [takeGateEndRefr_frame]
@[simp] theorem takeGateEndRefr_motion (s : State) :
    (takeGateEndRefr s).motion = s.motion := by rw [takeGateEndRefr_frame]
@[simp] theorem takeGateEndRefr_capture (s : State) :
    (takeGateEndRefr s).capture = s.capture := by rw [takeGateEndRefr_frame]
@[simp] theorem takeGateEndRefr_matcher (s : State) :
    (takeGateEndRefr s).matcher = s.matcher := by rw [takeGateEndRefr_frame]
@[simp] theorem takeGateEndRefr_scan (s : State) :
    (takeGateEndRefr s).scan = s.scan := by rw [takeGateEndRefr_frame]
@[simp] theorem takeGateEndRefr_hold (s : State) :
    (takeGateEndRefr s).hold = s.hold := by rw [takeGateEndRefr_frame]
@[simp] theorem takeGateEndRefr_main (s : State) :
    (takeGateEndRefr s).main = s.main := by rw [takeGateEndRefr_frame]
@[simp] theorem takeGateEndRefr_exc (s : State) :
    (takeGateEndRefr s).exc = s.exc := by rw [takeGateEndRefr_frame]
@[simp] theorem takeGateEndRefr_mp (s : State) :
    (takeGateEndRefr s).mp = s.mp := by rw [takeGateEndRefr_frame]
@[simp] theorem takeGateEndRefr_sv (s : State) :
    (takeGateEndRefr s).sv = s.sv := by rw [takeGateEndRefr_frame]
@[simp] theorem takeGateEndRefr_env (s : State) :
    (takeGateEndRefr s).env = s.env := by rw [takeGateEndRefr_frame]
@[simp] theorem takeGateEndRefr_gen (s : State) :
    (takeGateEndRefr s).gen = s.gen := by rw [takeGateEndRefr_frame]
@[simp] theorem takeGateEndRefr_mask (s : State) :
    (takeGateEndRefr s).events.mask = s.events.mask := by rw [takeGateEndRefr_frame]

/-! ## takeCaptureReport -/

@[simp] theorem takeCaptureReport_pending (s : State) :
    (takeCaptureReport s).pending = s.pending := by rw [takeCaptureReport_frame]
@[simp] theorem takeCaptureReport_resetLow (s : State) :
    (takeCaptureReport s).resetLow = s.resetLow := by rw [takeCaptureReport_frame]
@[simp] theorem takeCaptureReport_samplePort (s : State) :
    (takeCaptureReport s).samplePort = s.samplePort := by rw [takeCaptureReport_frame]
@[simp] theorem takeCaptureReport_params (s : State) :
    (takeCaptureReport s).params = s.params := by rw [takeCaptureReport_frame]
@[simp] theorem takeCaptureReport_channels (s : State) :
    (takeCaptureReport s).channels = s.channels := by rw [takeCaptureReport_frame]
@[simp] theorem takeCaptureReport_lock (s : State) :
    (takeCaptureReport s).lock = s.lock := by rw [takeCaptureReport_frame]
@[simp] theorem takeCaptureReport_refr (s : State) :
    (takeCaptureReport s).refr = s.refr := by rw [takeCaptureReport_frame]
@[simp] theorem takeCaptureReport_axes (s : State) :
    (takeCaptureReport s).axes = s.axes := by rw [takeCaptureReport_frame]
@[simp] theorem takeCaptureReport_slots (s : State) :
    (takeCaptureReport s).slots = s.slots := by rw [takeCaptureReport_frame]
@[simp] theorem takeCaptureReport_motion (s : State) :
    (takeCaptureReport s).motion = s.motion := by rw [takeCaptureReport_frame]
@[simp] theorem takeCaptureReport_mp (s : State) :
    (takeCaptureReport s).mp = s.mp := by rw [takeCaptureReport_frame]
@[simp] theorem takeCaptureReport_sv (s : State) :
    (takeCaptureReport s).sv = s.sv := by rw [takeCaptureReport_frame]
@[simp] theorem takeCaptureReport_env (s : State) :
    (takeCaptureReport s).env = s.env := by rw [takeCaptureReport_frame]
@[simp] theorem takeCaptureReport_gen (s : State) :
    (takeCaptureReport s).gen = s.gen := by rw [takeCaptureReport_frame]
@[simp] theorem takeCaptureReport_mask (s : State) :
    (takeCaptureReport s).events.mask = s.events.mask := by rw [takeCaptureReport_frame]
@[simp] theorem takeCaptureReport_mainHead (s : State) :
    (takeCaptureReport s).main.headUnderRead = s.main.headUnderRead := by rw [takeCaptureReport_frame]
@[simp] theorem takeCaptureReport_excHead (s : State) :
    (takeCaptureReport s).exc.headUnderRead = s.exc.headUnderRead := by rw [takeCaptureReport_frame]

/-! ## takeScanReport -/

@[simp] theorem takeScanReport_pending (s : State) :
    (takeScanReport s).pending = s.pending := by rw [takeScanReport_frame]
@[simp] theorem takeScanReport_resetLow (s : State) :
    (takeScanReport s).resetLow = s.resetLow := by rw [takeScanReport_frame]
@[simp] theorem takeScanReport_samplePort (s : State) :
    (takeScanReport s).samplePort = s.samplePort := by rw [takeScanReport_frame]
@[simp] theorem takeScanReport_params (s : State) :
    (takeScanReport s).params = s.params := by rw [takeScanReport_frame]
@[simp] theorem takeScanReport_channels (s : State) :
    (takeScanReport s).channels = s.channels := by rw [takeScanReport_frame]
@[simp] theorem takeScanReport_lock (s : State) :
    (takeScanReport s).lock = s.lock := by rw [takeScanReport_frame]
@[simp] theorem takeScanReport_refr (s : State) :
    (takeScanReport s).refr = s.refr := by rw [takeScanReport_frame]
@[simp] theorem takeScanReport_axes (s : State) :
    (takeScanReport s).axes = s.axes := by rw [takeScanReport_frame]
@[simp] theorem takeScanReport_motion (s : State) :
    (takeScanReport s).motion = s.motion := by rw [takeScanReport_frame]
@[simp] theorem takeScanReport_matcher (s : State) :
    (takeScanReport s).matcher = s.matcher := by rw [takeScanReport_frame]
@[simp] theorem takeScanReport_hold (s : State) :
    (takeScanReport s).hold = s.hold := by rw [takeScanReport_frame]
@[simp] theorem takeScanReport_exc (s : State) :
    (takeScanReport s).exc = s.exc := by rw [takeScanReport_frame]
@[simp] theorem takeScanReport_mp (s : State) :
    (takeScanReport s).mp = s.mp := by rw [takeScanReport_frame]
@[simp] theorem takeScanReport_sv (s : State) :
    (takeScanReport s).sv = s.sv := by rw [takeScanReport_frame]
@[simp] theorem takeScanReport_env (s : State) :
    (takeScanReport s).env = s.env := by rw [takeScanReport_frame]
@[simp] theorem takeScanReport_gen (s : State) :
    (takeScanReport s).gen = s.gen := by rw [takeScanReport_frame]
@[simp] theorem takeScanReport_mask (s : State) :
    (takeScanReport s).events.mask = s.events.mask := by rw [takeScanReport_frame]
@[simp] theorem takeScanReport_mainHead (s : State) :
    (takeScanReport s).main.headUnderRead = s.main.headUnderRead := by rw [takeScanReport_frame]
@[simp] theorem takeScanReport_mainRecords (s : State) :
    (takeScanReport s).main.records = s.main.records := by rw [takeScanReport_frame]

/-! ## takeDatumReport -/

@[simp] theorem takeDatumReport_pending (s : State) :
    (takeDatumReport s).pending = s.pending := by rw [takeDatumReport_frame]
@[simp] theorem takeDatumReport_resetLow (s : State) :
    (takeDatumReport s).resetLow = s.resetLow := by rw [takeDatumReport_frame]
@[simp] theorem takeDatumReport_samplePort (s : State) :
    (takeDatumReport s).samplePort = s.samplePort := by rw [takeDatumReport_frame]
@[simp] theorem takeDatumReport_params (s : State) :
    (takeDatumReport s).params = s.params := by rw [takeDatumReport_frame]
@[simp] theorem takeDatumReport_channels (s : State) :
    (takeDatumReport s).channels = s.channels := by rw [takeDatumReport_frame]
@[simp] theorem takeDatumReport_lock (s : State) :
    (takeDatumReport s).lock = s.lock := by rw [takeDatumReport_frame]
@[simp] theorem takeDatumReport_refr (s : State) :
    (takeDatumReport s).refr = s.refr := by rw [takeDatumReport_frame]
@[simp] theorem takeDatumReport_motion (s : State) :
    (takeDatumReport s).motion = s.motion := by rw [takeDatumReport_frame]
@[simp] theorem takeDatumReport_matcher (s : State) :
    (takeDatumReport s).matcher = s.matcher := by rw [takeDatumReport_frame]
@[simp] theorem takeDatumReport_scan (s : State) :
    (takeDatumReport s).scan = s.scan := by rw [takeDatumReport_frame]
@[simp] theorem takeDatumReport_hold (s : State) :
    (takeDatumReport s).hold = s.hold := by rw [takeDatumReport_frame]
@[simp] theorem takeDatumReport_exc (s : State) :
    (takeDatumReport s).exc = s.exc := by rw [takeDatumReport_frame]
@[simp] theorem takeDatumReport_mp (s : State) :
    (takeDatumReport s).mp = s.mp := by rw [takeDatumReport_frame]
@[simp] theorem takeDatumReport_sv (s : State) :
    (takeDatumReport s).sv = s.sv := by rw [takeDatumReport_frame]
@[simp] theorem takeDatumReport_env (s : State) :
    (takeDatumReport s).env = s.env := by rw [takeDatumReport_frame]
@[simp] theorem takeDatumReport_gen (s : State) :
    (takeDatumReport s).gen = s.gen := by rw [takeDatumReport_frame]
@[simp] theorem takeDatumReport_mask (s : State) :
    (takeDatumReport s).events.mask = s.events.mask := by rw [takeDatumReport_frame]
@[simp] theorem takeDatumReport_mainHead (s : State) :
    (takeDatumReport s).main.headUnderRead = s.main.headUnderRead := by rw [takeDatumReport_frame]
@[simp] theorem takeDatumReport_mainRecords (s : State) :
    (takeDatumReport s).main.records = s.main.records := by rw [takeDatumReport_frame]

/-! ## takeHoldReport -/

@[simp] theorem takeHoldReport_pending (s : State) :
    (takeHoldReport s).pending = s.pending := by rw [takeHoldReport_frame]
@[simp] theorem takeHoldReport_resetLow (s : State) :
    (takeHoldReport s).resetLow = s.resetLow := by rw [takeHoldReport_frame]
@[simp] theorem takeHoldReport_samplePort (s : State) :
    (takeHoldReport s).samplePort = s.samplePort := by rw [takeHoldReport_frame]
@[simp] theorem takeHoldReport_params (s : State) :
    (takeHoldReport s).params = s.params := by rw [takeHoldReport_frame]
@[simp] theorem takeHoldReport_channels (s : State) :
    (takeHoldReport s).channels = s.channels := by rw [takeHoldReport_frame]
@[simp] theorem takeHoldReport_lock (s : State) :
    (takeHoldReport s).lock = s.lock := by rw [takeHoldReport_frame]
@[simp] theorem takeHoldReport_refr (s : State) :
    (takeHoldReport s).refr = s.refr := by rw [takeHoldReport_frame]
@[simp] theorem takeHoldReport_axes (s : State) :
    (takeHoldReport s).axes = s.axes := by rw [takeHoldReport_frame]
@[simp] theorem takeHoldReport_slots (s : State) :
    (takeHoldReport s).slots = s.slots := by rw [takeHoldReport_frame]
@[simp] theorem takeHoldReport_motion (s : State) :
    (takeHoldReport s).motion = s.motion := by rw [takeHoldReport_frame]
@[simp] theorem takeHoldReport_capture (s : State) :
    (takeHoldReport s).capture = s.capture := by rw [takeHoldReport_frame]
@[simp] theorem takeHoldReport_matcher (s : State) :
    (takeHoldReport s).matcher = s.matcher := by rw [takeHoldReport_frame]
@[simp] theorem takeHoldReport_scan (s : State) :
    (takeHoldReport s).scan = s.scan := by rw [takeHoldReport_frame]
@[simp] theorem takeHoldReport_main (s : State) :
    (takeHoldReport s).main = s.main := by rw [takeHoldReport_frame]
@[simp] theorem takeHoldReport_exc (s : State) :
    (takeHoldReport s).exc = s.exc := by rw [takeHoldReport_frame]
@[simp] theorem takeHoldReport_mp (s : State) :
    (takeHoldReport s).mp = s.mp := by rw [takeHoldReport_frame]
@[simp] theorem takeHoldReport_sv (s : State) :
    (takeHoldReport s).sv = s.sv := by rw [takeHoldReport_frame]
@[simp] theorem takeHoldReport_env (s : State) :
    (takeHoldReport s).env = s.env := by rw [takeHoldReport_frame]
@[simp] theorem takeHoldReport_gen (s : State) :
    (takeHoldReport s).gen = s.gen := by rw [takeHoldReport_frame]
@[simp] theorem takeHoldReport_mask (s : State) :
    (takeHoldReport s).events.mask = s.events.mask := by rw [takeHoldReport_frame]

/-! ## takeTestReport -/

@[simp] theorem takeTestReport_pending (s : State) :
    (takeTestReport s).pending = s.pending := by rw [takeTestReport_frame]
@[simp] theorem takeTestReport_resetLow (s : State) :
    (takeTestReport s).resetLow = s.resetLow := by rw [takeTestReport_frame]
@[simp] theorem takeTestReport_samplePort (s : State) :
    (takeTestReport s).samplePort = s.samplePort := by rw [takeTestReport_frame]
@[simp] theorem takeTestReport_params (s : State) :
    (takeTestReport s).params = s.params := by rw [takeTestReport_frame]
@[simp] theorem takeTestReport_channels (s : State) :
    (takeTestReport s).channels = s.channels := by rw [takeTestReport_frame]
@[simp] theorem takeTestReport_lock (s : State) :
    (takeTestReport s).lock = s.lock := by rw [takeTestReport_frame]
@[simp] theorem takeTestReport_refr (s : State) :
    (takeTestReport s).refr = s.refr := by rw [takeTestReport_frame]
@[simp] theorem takeTestReport_axes (s : State) :
    (takeTestReport s).axes = s.axes := by rw [takeTestReport_frame]
@[simp] theorem takeTestReport_slots (s : State) :
    (takeTestReport s).slots = s.slots := by rw [takeTestReport_frame]
@[simp] theorem takeTestReport_motion (s : State) :
    (takeTestReport s).motion = s.motion := by rw [takeTestReport_frame]
@[simp] theorem takeTestReport_capture (s : State) :
    (takeTestReport s).capture = s.capture := by rw [takeTestReport_frame]
@[simp] theorem takeTestReport_matcher (s : State) :
    (takeTestReport s).matcher = s.matcher := by rw [takeTestReport_frame]
@[simp] theorem takeTestReport_scan (s : State) :
    (takeTestReport s).scan = s.scan := by rw [takeTestReport_frame]
@[simp] theorem takeTestReport_hold (s : State) :
    (takeTestReport s).hold = s.hold := by rw [takeTestReport_frame]
@[simp] theorem takeTestReport_main (s : State) :
    (takeTestReport s).main = s.main := by rw [takeTestReport_frame]
@[simp] theorem takeTestReport_exc (s : State) :
    (takeTestReport s).exc = s.exc := by rw [takeTestReport_frame]
@[simp] theorem takeTestReport_mp (s : State) :
    (takeTestReport s).mp = s.mp := by rw [takeTestReport_frame]
@[simp] theorem takeTestReport_sv (s : State) :
    (takeTestReport s).sv = s.sv := by rw [takeTestReport_frame]
@[simp] theorem takeTestReport_env (s : State) :
    (takeTestReport s).env = s.env := by rw [takeTestReport_frame]
@[simp] theorem takeTestReport_mask (s : State) :
    (takeTestReport s).events.mask = s.events.mask := by rw [takeTestReport_frame]

@[simp] theorem setChannels_channels (after : Four Channel) (s : State) : (setChannels after s).channels = after := by
  rw [setChannels_frame]
@[simp] theorem applyStore_params (q : Param) (p : Params) (s : State) : (applyStore q p s).params = p := by
  rw [applyStore_frame]

/-! ## The taking of a whole gate end, and the arrival -/

@[simp] theorem takeAll_pending (s : State) : (takeAll s).pending = s.pending := by simp [takeAll]
@[simp] theorem takeAll_resetLow (s : State) : (takeAll s).resetLow = s.resetLow := by simp [takeAll]
@[simp] theorem takeAll_samplePort (s : State) : (takeAll s).samplePort = s.samplePort := by simp [takeAll]
@[simp] theorem takeAll_params (s : State) : (takeAll s).params = s.params := by simp [takeAll]
@[simp] theorem takeAll_channels (s : State) : (takeAll s).channels = s.channels := by simp [takeAll]
@[simp] theorem takeAll_lock (s : State) : (takeAll s).lock = s.lock := by simp [takeAll]
@[simp] theorem takeAll_motion (s : State) : (takeAll s).motion = s.motion := by simp [takeAll]
@[simp] theorem takeAll_mp (s : State) : (takeAll s).mp = s.mp := by simp [takeAll]
@[simp] theorem takeAll_sv (s : State) : (takeAll s).sv = s.sv := by simp [takeAll]
@[simp] theorem takeAll_env (s : State) : (takeAll s).env = s.env := by simp [takeAll]

@[simp] theorem takeGateEndRefr_due (s : State) : (takeGateEndRefr s).due = { s.due with refractivity := false } := by rw [takeGateEndRefr_frame]
@[simp] theorem takeCaptureReport_due (s : State) : (takeCaptureReport s).due = { s.due with capture := none } := by rw [takeCaptureReport_frame]
@[simp] theorem takeScanReport_due (s : State) : (takeScanReport s).due = { s.due with scan := none } := by rw [takeScanReport_frame]
@[simp] theorem takeDatumReport_due (s : State) : (takeDatumReport s).due = { s.due with datum := false } := by rw [takeDatumReport_frame]
@[simp] theorem takeHoldReport_due (s : State) : (takeHoldReport s).due = { s.due with hold := false } := by rw [takeHoldReport_frame]
@[simp] theorem takeTestReport_due (s : State) : (takeTestReport s).due = { s.due with test := false } := by rw [takeTestReport_frame]

/-- After it no block has a gate end to take. -/
@[simp] theorem takeAll_due (s : State) : (takeAll s).due = .nothing := by simp [takeAll, Due.nothing]

@[simp] theorem arrive_pending (values : List (BitVec 16)) (high : Bool) (s : State) :
    (arrive values high s).pending = s.pending := by simp [arrive]
@[simp] theorem arrive_resetLow (values : List (BitVec 16)) (high : Bool) (s : State) :
    (arrive values high s).resetLow = s.resetLow := by simp [arrive]
@[simp] theorem arrive_samplePort (values : List (BitVec 16)) (high : Bool) (s : State) :
    (arrive values high s).samplePort = s.samplePort := by simp [arrive]
@[simp] theorem arrive_params (values : List (BitVec 16)) (high : Bool) (s : State) :
    (arrive values high s).params = s.params := by simp [arrive]
@[simp] theorem arrive_mp (values : List (BitVec 16)) (high : Bool) (s : State) :
    (arrive values high s).mp = s.mp := by simp [arrive]
@[simp] theorem arrive_sv (values : List (BitVec 16)) (high : Bool) (s : State) :
    (arrive values high s).sv = s.sv := by simp [arrive]
@[simp] theorem arrive_env (values : List (BitVec 16)) (high : Bool) (s : State) :
    (arrive values high s).env = s.env := by simp [arrive]
@[simp] theorem arrive_lock (values : List (BitVec 16)) (high : Bool) (s : State) :
    (arrive values high s).lock = s.lock.arrive (lockSettleLength s.params) high := by
  simp only [arrive, countArrival_lock]
  rw [lockArrive_frame]
  simp

/-- The channels after an arrival (R2, R3). -/
theorem arrive_channels (values : List (BitVec 16)) (high : Bool) (s : State) :
    (arrive values high s).channels =
      takeSet s.params (.ofFn (pairOf values)) ((takeAll s).gen.pair s.params) s.channels := by
  simp only [arrive, countArrival_channels, lockArrive_channels]
  rw [frontEnd_frame]
  simp

end Sys2Proof.Machine
end

