-- ==== Sys2Proof/Tests/Slice0.lean ====
section
/-! SUPPORT. Tests by the worked examples and rules of the manual, and for every statement with hypotheses a state that
meets them. Expected values are the manual's own figures, or worked out by hand from the rule named. -/

namespace Sys2Proof.Machine.Test

/-! ## Helpers -/

/-- The next state of a command, or the state itself. -/
def after (s : State) (i : Instr) : State :=
  match exec i s with
  | .next t => t
  | .fault _ => s
  | .refused _ => s

/-- The state with a transaction open that waits for its command. -/
def tx (s : State) : State :=
  { s with mp := { selected := true, transaction := some { code := none, arguments := 0, taken := false, out := [] } } }

/-- The bytes that go out in the transaction of a command. -/
def out (s : State) (i : Instr) : List Byte := ((after (tx s) i).mp.transaction.map fun t => t.out).getD []

/-- Seven values of a set delivered: channel 0 has the pair (s, c), the others (0, 0). -/
def port (s c : Int) (st : State) : State :=
  { st with samplePort := [BitVec.ofInt 16 s, BitVec.ofInt 16 c, 0, 0, 0, 0, 0] }

/-- The state with channel 0 given. -/
def withChannel (ch : Channel) (s : State) : State := { s with channels := s.channels.set 0 ch }

/-- The state with axis 0 in a given state. -/
def withAxis (a : AxisState) (s : State) : State := { s with axes := s.axes.set 0 { s.axes.a0 with state := a } }

/-- A TRACKING channel. -/
def tracking (count : Int) (last : Nat) : Channel :=
  { state := .tracking, cause := .none, count := count, lastPhase := last, settle := 0, badRun := 0, breaks := 5,
    source := .input }

/-- Axis 0 REFERENCED with channel 0, its one weighted channel, TRACKING. -/
def referenced : State :=
  let s := withAxis .referenced (withChannel (tracking 1024000 0) State.reset)
  { s with axes := s.axes.set 0 { s.axes.a0 with datumBreaks := ⟨5, 0, 0, 0⟩ } }

/-- A graduation. -/
def entry (index : Nat) (nominal halfWindow : Int) (retained : Bool) (hits : Nat) : Entry :=
  { index := index, nominal := nominal, halfWindow := halfWindow, retained := retained, hits := hits
    firstHit := if hits = 0 then none else some 9 }

/-- The table of the examples of chapter 7: graduations 100, 101 and 102 at 1 mm, half-window 20 µm. -/
def table : List Entry :=
  [entry 100 100000000000 20000000 false 0, entry 101 101000000000 20000000 false 0,
   entry 102 102000000000 20000000 false 1]

/-- The state with a table. -/
def withTable (t : List Entry) (s : State) : State := { s with matcher := { s.matcher with table := t } }

/-- A scan on axis 0, line LINE0, from 0 to 200 mm. -/
def descriptor (direction : Direction) : Descriptor :=
  match direction with
  | .forward => { id := 7, axis := 0, line := .line0, direction := .forward, start := 0, stop := 200000000000 }
  | .reverse => { id := 7, axis := 0, line := .line0, direction := .reverse, start := 200000000000, stop := 0 }

/-- The state with a scan in a given state. -/
def withScan (st : ScanState) (d : Direction) (s : State) : State :=
  { s with scan := { s.scan with state := st, descriptor := some (descriptor d) } }

/-- A latch with no axes. -/
def emptyLatch : Latch :=
  { axes := [], context := .fill (Axis.context { state := .undefined, offset := 0, nDat := 0, epoch := 0, datumBreaks := .fill 0 })
    channels := .fill { state := .off, source := .input }, n := 2700000, laserNotLocked := false, lockForced := false, envStale := false, trackerFrozen := false,
    test := false, scanId := 0 }

/-- A capture in flight. -/
def capture (seq : Word32) (kind : CaptureKind) (axes : List LatchedAxis) : Capture :=
  { seq := seq, kind := kind, gate := 0, latch := { emptyLatch with axes := axes } }

/-- The state with captures in flight. -/
def withCaptures (l : List Capture) (s : State) : State := { s with capture := { s.capture with inFlight := l } }

/-- Axis 0 as a capture latched it. -/
def latched (value : Int) : LatchedAxis :=
  { axis := 0, value := value, clamped := false, epoch := 1, state := .referenced, generator := false }

/-- A STROBE record. -/
def record (seq : Word32) : Record :=
  { seq := seq, kind := .strobe .command, gate := 0, scanId := 0, n := 2700000
    flags :=
      { laserNotLocked := false, lockForced := false, envStale := false, trackerFrozen := false, test := false,
        axisClamp := false, noVelocity := false, notSteady := false, fast := false }
    lostBefore := 0, axes := [], direction := none, matchPart := none, reason := none }

/-- The state with records in the main ring. -/
def withMain (l : List Record) (s : State) : State := { s with main := { s.main with records := l } }

/-- The state with records in the exception ring. -/
def withExc (l : List Record) (s : State) : State := { s with exc := { s.exc with records := l } }

/-- One axis of a report: a valid velocity of 5,120,000 pm per gate, not fast. -/
def reportAxis (sign : Sign) (valid : Bool) (value : Int) : ReportAxis :=
  { defined := true, value := value, clamped := false, velocity := 5120000, reported := 20000, valid := valid,
    sign := sign, steady := true, fast := false }

/-- A report of gate 0 at the default gate. -/
def report (sign : Sign) (valid : Bool) (value : Int) : GateReport :=
  { gate := 0, length := 1024, tNs := 250, axes := .fill (reportAxis sign valid value) }

/-- A gate end that every block has still to take. -/
def dueAll (r : GateReport) (s : State) : State :=
  { s with due := { refractivity := true, capture := some r, scan := some r, datum := true, hold := true, test := true } }

/-- The state with the hold in a given state. -/
def withHold (h : HoldState) (s : State) : State := { s with hold := { s.hold with state := h } }

/-- The state with slot 0 given. -/
def withSlot (st : SlotState) (owner : Option Owner) (source : DatumSource) (timeout : Nat) (s : State) : State :=
  { s with
    slots := s.slots.set 0
      { state := st, owner := owner, source := source, edge := .rising, preset := -1000000, timeout := timeout, age := 0,
        outcome := .none } }

/-- The state with a request byte due on the servo link, and the latch of its frame's SYNC. -/
def withRequest (b : Byte) (s : State) : State :=
  { s with sv := { s.sv with request := some b, latch := some emptyLatch } }

/-- The state with a scan's lock in a given state. -/
def withLock (l : LockState) (s : State) : State := { s with lock := { s.lock with state := l } }

/-! ## Steps, words and well-formedness -/

theorem test_step_takes_the_front :
    (match step { State.reset with pending := [.syncArrival, .restart] } with
      | .next t => t.pending == [.restart] && t.sv.frame.isSome
      | .fault _ => false
      | .refused _ => false) = true := by decide

theorem test_no_word_spells_a_command : decodeTableWord 32 0xFFFFFFFF = none ∧
    State.reset.withFetchWord 32 1 = State.reset := by decide

/-- 0x0070 is WEIGHT of axis 0 and channel 0, which has a row of its own. -/
theorem test_ill_formed_set_param : WellFormed (.setParam 0x0070 0) = false := by decide

/-- 0x01 is IDENTIFY. -/
theorem test_ill_formed_unknown_command : WellFormed (.unknownCommand 0x01) = false := by decide

/-- Section 10.1: 0x13 is not in the command summary; 0x0090 is GATE_SEL. -/
theorem test_well_formed : WellFormed (.unknownCommand 0x13) = true ∧ WellFormed (.setParam 0x0090 0) = true := by decide

/-! ## Rounding, phases and amplitudes -/

/-- Section 3.1: half way rounds away from zero. -/
theorem test_roundDiv : roundDiv 229376 65536 = 4 ∧ roundDiv (-229376) 65536 = -4 ∧ roundDiv 32768 65536 = 1 := by decide

/-- R9: eighths of a turn. -/
theorem test_phaseOf : phaseOf 1 0 = 0 ∧ phaseOf 1 1 = 128 ∧ phaseOf 0 5 = 256 ∧ phaseOf (-3) 0 = 512 ∧
    phaseOf 0 (-1) = 768 ∧ phaseOf 30000 (-1) = 0 := by decide

/-- R194 by hand: sin and cos of an eighth and of a quarter of a turn at amplitude 16000. -/
theorem test_generator_pair : sineOf 16000 128 = 11314 ∧ cosineOf 16000 128 = 11314 ∧ sineOf 16000 256 = 16000 ∧
    cosineOf 16000 512 = -16000 := by decide

/-- R10: the rail, and amplitude below AMP_MIN. -/
theorem test_classify : classify .default 32767 0 = .bad .clipped ∧ classify .default 0 2999 = .bad .signalLow ∧
    classify .default 0 3000 = .good 0 := by decide

/-! ## Channels (chapter 1) -/

/-- The pair of a phase at amplitude 16000. -/
def pair (phase : Nat) : Int × Int := (sineOf 16000 phase, cosineOf 16000 phase)

/-- Section 1.3, worked example: 924 to 1000 is +76, 1000 to 60 is +84. -/
theorem test_unwrap : (tracking 1023900 924).take .default 0 (pair 1000) = tracking 1023976 1000 ∧
    (tracking 1023976 1000).take .default 0 (pair 60) = tracking 1024060 60 := by decide

/-- Section 1.3, worked example: 300 to 750 is a step of 450, above STEP_LIMIT. -/
theorem test_overspeed : (tracking 1024300 300).take .default 0 (pair 750) =
    { tracking 1024300 300 with state := .lost, cause := .overspeed, breaks := 6 } := by decide

/-- Section 1.3, worked example: aligning a held count. -/
theorem test_align : alignCount 1024300 900 = 1023876 ∧ alignCount 1024300 812 = 1023788 := by decide

/-- Section 1.3, worked example: the last count in range, and one past it. -/
theorem test_overrange : (tracking 549755813800 936).take .default 0 (pair 1023) = tracking 549755813887 1023 ∧
    (tracking 549755813887 1023).take .default 0 (pair 10) =
      { tracking 549755813887 10 with state := .lost, cause := .overrange, breaks := 6 } := by decide

/-- R2, R14: the eighth value brings the arrival; the channel on INPUT takes its pair. -/
theorem test_sample_set_arrival :
    ((after (port 16000 0 (withChannel (tracking 0 0) State.reset)) (.sampleSetArrival 0 false)).channels.a0 =
      { tracking 256 256 with breaks := 5 }) ∧
    (after (port 16000 0 State.reset) (.sampleSetArrival 0 false)).motion.gateCounter = 1 := by decide

/-- R1: a value before the eighth is held. -/
theorem test_sample_value_delivered :
    (after State.reset (.sampleValueDelivered 0x1234 false)).samplePort = [0x1234] := by decide

/-- R12, R13: the 8192nd good sample completes settling; held count 0, phase 768: −256 is nearest. -/
theorem test_settle_complete :
    (after (port (-16000) 0 (withChannel { Channel.reset with state := .settling, settle := 8191 } State.reset))
      (.settleComplete 0 false)).channels.a0 =
      { tracking (-256) 768 with breaks := 0 } := by decide

/-- R17, R18: the eighth bad sample. -/
theorem test_loss_persist_reached :
    (let t := after (port 0 0 (withChannel { tracking 0 0 with badRun := 7 } State.reset)) (.lossPersistReached 0 false)
    t.channels.a0 = { tracking 0 0 with state := .lost, cause := .signalLow, breaks := 6 } ∧
      t.flagPending .channelLost = true) := by decide

theorem test_channel_enable : (after (tx State.reset) (.channelEnable 2)).channels.a2.state = .settling ∧
    out State.reset (.channelEnable 4) = [0x10] := by decide

/-- R22, R70: the count is held, the break number rises, and the axis that weights the channel breaks. -/
theorem test_channel_disable :
    (let t := after (tx referenced) (.channelDisable 0)
    t.channels.a0 = { tracking 1024000 0 with state := .off, breaks := 6 } ∧ t.axes.a0.state = .broken ∧
      t.flagPending .axisBroken = true) := by decide

theorem test_channel_restart :
    (after (tx referenced) (.channelRestart 0)).channels.a0 =
      { tracking 0 0 with state := .settling, breaks := 6 } := by decide

/-! ## Test Generator (chapter 11) -/

/-- R192: channels 0 and 1 move to the generator. -/
theorem test_test_start :
    (let t := after (tx State.reset) (.testStart 3)
    t.gen.running = true ∧ t.channels.a1.source = .generator ∧ t.channels.a2.source = .input) ∧
    out State.reset (.testStart 16) = [0x10] := by decide

theorem test_test_stop :
    (let t := after (tx (after (tx State.reset) (.testStart 3))) .testStop
    t.gen.running = false ∧ t.channels.a0.source = .input ∧ t.channels.a0.breaks = 2) := by decide

/-- A generator in SHUTTLE at the end of its period. -/
def shuttleEnd : State :=
  { State.reset with gen := { Generator.reset with running := true, pattern := .shuttle, position := 4096 } }

/-- Section 11.3, worked example: at position 4096 the sign turns and the phase is 1024 − 32. -/
theorem test_test_period_end :
    (let g := (after (port 0 0 shuttleEnd) (.testPeriodEnd 0 false)).gen
    g.psi = 992 ∧ g.reversed = true ∧ g.position = 1) := by decide

/-- R196: the third report advances from CONSTANT to the next enabled pattern, JUMP. -/
theorem test_test_advanced :
    (let t := after (dueAll (report .positive true 0)
        { State.reset with
          params := { Params.default with testAdvance := 3, testPatterns := 9 }
          gen := { Generator.reset with running := true, advance := 2, psi := 5 } }) .testAdvanced
    t.gen.pattern = .jump ∧ t.gen.jump = true ∧ t.gen.psi = 5 ∧ t.gen.advance = 0 ∧ t.flagPending .testAdvanced = true ∧
      t.due.test = false) := by decide

/-! ## Laser lock and refractivity (chapter 2) -/

/-- R29: the settle length is 2^18 at LOCK_SETTLE 2. -/
theorem test_lock_settle_complete :
    (after (port 0 0 { State.reset with lock := { state := .settling, settle := 262143 } })
      (.lockSettleComplete 0 true)).lock = { state := .locked, settle := 0 } := by decide

/-- R41: the limit is 610 × 65536 sample sets. -/
theorem test_env_stale :
    (let t := after (port 0 0 { State.reset with refr := { State.reset.refr with env := .fresh, age := 39976959 } })
        (.envStale 0 false)
    t.refr.env = .stale ∧ t.flagPending .envStale = true) := by decide

/-- Section 2.3, worked example: the tracker term. -/
theorem test_tracker_term : trackerTerm 97 632991213 2 100000 = 2998 ∧ trackerTerm 98 632991213 2 100000 = 3029 ∧
    trackerTerm 1 632991213 2 100000 = 31 ∧ trackerTerm 2 632991213 2 100000 = 62 ∧
    trackerTerm 3 632991213 2 100000 = 93 := by decide

/-- R36: VACUUM written since comes into force for the N formed; the N in use stays. -/
theorem test_configuration_adopted :
    (let t := after (dueAll (report .positive true 0)
        { State.reset with params := { Params.default with vacuum := true } }) .configurationAdopted
    t.refr.config.vacuum = true ∧ t.refr.nFormed = some 0 ∧ t.refr.nInUse = 2700000) := by decide

/-- R40: no scan is open. -/
theorem test_held_update_promoted :
    (let t := after (dueAll (report .positive true 0)
        { State.reset with refr := { State.reset.refr with held := some 2700450 } }) .heldUpdatePromoted
    t.refr.held = none ∧ t.refr.nFormed = some 2700450 ∧ t.refr.result = .applied) := by decide

/-- R39: with a scan open a step of 51 is held, a step of 50 applied. -/
theorem test_env_update_applied :
    (let s := dueAll (report .positive true 0) (withScan .active .forward State.reset)
    (after { s with refr := { s.refr with pending := some 2700051 } } .envUpdateApplied).refr.held = some 2700051 ∧
      (after { s with refr := { s.refr with pending := some 2700050 } } .envUpdateApplied).refr.nBase = 2700050) := by
  decide

/-! ## Position arithmetic (chapter 3) -/

/-- Sections 3.2 and 3.3, worked examples. -/
theorem test_position : displacement 1024000 632991213 4 2700000 = 158205088 ∧
    displacement 1024000 632991213 4 2700450 = 158205081 ∧ deadPathTerm 120000 2700450 2700000 = 5399 ∧
    roundDiv 10367769712000 65536 = 158199611 := by decide

/-- R61, worked example. -/
theorem test_compensated : compensated 145853933 5120000 1800 1024 250 = 145817933 ∧
    compensated 145853933 (-5120000) 1800 1024 250 = 145889933 := by decide

/-- R63, worked examples. -/
theorem test_servo_value : servoValue 145853933 1000 = 145853 ∧ servoValue 3000000000 1 = -1294967296 ∧
    servoValue (-2500) 1000 = -3 ∧ servoValue 140737488355327 1000 = -996432413 ∧
    clampLength 140800000000000 = 140737488355327 := by decide

/-- R54, R65: the value of axis 0 with displacement 158,205,088 and offset 0. -/
theorem test_read_axis : (out referenced (.readAxis 0)).take 12 = [0, 2, 0, 0, 0, 0, 0, 0, 0x09, 0x6E, 0x04, 0xA0] ∧
    (out referenced (.readAxis 4)).take 2 = [0x10, 0] := by decide

/-! ## Axes and datums (chapter 4) -/

/-- R83, R84: the axis reads its preset after the mark. -/
theorem test_reference_mark_event :
    (let t := after (withSlot .armed (some .servo) .ref0 0 (withAxis .unreferenced referenced))
        (.referenceMarkEvent .ref0 .rising)
    axisValue t 0 = -1000000 ∧ t.axes.a0.epoch = 1 ∧ t.slots.a0.outcome = .done ∧ t.capture.inFlight.length = 1) := by
  decide

theorem test_immediate_datum :
    (let t := after (dueAll (report .positive true 0) (withSlot .armed (some .servo) .immediate 0 referenced)) .immediateDatum
    axisValue t 0 = -1000000 ∧ t.slots.a0.state = .idle) := by decide

/-- R85: timeout 1. -/
theorem test_datum_timeout :
    (let t := after (dueAll (report .positive true 0) (withSlot .armed (some .servo) .ref0 1 referenced)) .datumTimeout
    t.slots.a0.outcome = .timeout ∧ t.flagPending .datumFailed = true ∧ t.axes = referenced.axes) := by decide

theorem test_datum_arm : (after (tx referenced) (.datumArm 0 2 1 5 9)).slots.a0 =
      { state := .armed, owner := some .measurement, source := .immediate, edge := .falling, preset := 5, timeout := 9,
        age := 0, outcome := .none } ∧
    out (withSlot .armed (some .servo) .ref0 0 referenced) (.datumArm 0 0 0 0 0) = [0x1C] := by decide

theorem test_datum_cancel : out (withSlot .armed (some .servo) .ref0 0 referenced) (.datumCancel 0) = [0x1D] ∧
    out referenced (.datumCancel 0) = [0x00] := by decide

/-! ## Motion Monitor (chapter 5) -/

/-- Section 5.3, worked examples. -/
theorem test_reported_velocity : reportedVelocity 5118000 1024 250 = 19992 ∧ reportedVelocity 5123000 1024 250 = 20011 ∧
    reportedVelocity 5120500 1024 250 = 20001 ∧ reportedVelocity 10239000 2048 250 = 19998 := by decide

/-- The arrival before a gate end. -/
def gateEnding (s : State) : State := port 0 0 { s with motion := { s.motion with gateCounter := 1023 } }

/-- R89, R99: the gate number advances, and every block takes the gate end. -/
theorem test_gate_end :
    (let t := after (gateEnding State.reset) (.gateEnd 0 false)
    t.motion.gateNumber = 1 ∧ t.motion.gateCounter = 0 ∧ t.due = .nothing ∧ t.refr.nFormed = some 2700000) := by decide

/-- R90: GATE_SEL 0 is 256. -/
theorem test_gate_length_adopted :
    (let t := after (gateEnding { State.reset with params := { Params.default with gateSel := 0 } }) (.gateLengthAdopted 0 false)
    t.motion.gateLength = 256 ∧ (t.due.capture.map fun r => r.length) = some 1024) := by decide

/-! ## Captures (chapter 6) -/

/-- R103, R104: outside a scan a line is dropped by default; inside the scan it is accepted. -/
theorem test_line_event :
    after referenced (.lineEvent .line0 .rising) = referenced ∧
    ((after (withScan .active .forward referenced) (.lineEvent .line0 .rising)).capture.inFlight.map fun c => c.kind) =
      [.line .line0 (.inside 0)] := by decide

theorem test_capture_now : out referenced .captureNow = [0, 0, 0, 0, 0] ∧
    (after (tx referenced) .captureNow).capture.nextSeq = 1 := by decide

/-- R61, R115, R139: a latency of 1800 ns moves the line onto graduation 100 with deviation +412. -/
theorem test_capture_finalization :
    (let s := withCaptures [capture 4 (.line .line0 (.inside 0)) [latched 100000036412]]
        (withTable table (withScan .active .forward referenced))
    let t := after (dueAll (report .positive true 0) { s with params := { s.params with lineLatency0 := 1800 } })
        .captureFinalization
    (t.main.records.map fun r => r.matchPart) = [some { result := .matched, index := some 100, deviation := some 412 }] ∧
      t.capture.inFlight = [] ∧ t.flagPending .mainReady = true) := by decide

/-! ## Graduations (chapter 7) -/

/-- The query of a line at `x` on a REFERENCED axis at a known velocity. -/
def query (x : Int) : LineQuery := { x := x, state := .referenced, epoch := 1, valid := true, fast := false, seq := 4 }

/-- The last matched nominal given. -/
def lastAt (last : Option Int) : State :=
  let s := withTable table (withScan .active .forward referenced)
  { s with matcher := { s.matcher with lastMatched := last } }

/-- Section 7.6, worked example. -/
theorem test_match_line :
    (matchLine (query 100000000412) (lastAt none)).2.part =
      some { result := .matched, index := some 100, deviation := some 412 } ∧
    (matchLine (query 100600000000) (lastAt none)).2.part = some { result := .stray, index := none, deviation := none } ∧
    (matchLine (query 102000005000) (lastAt (some 102000000000))).2.part =
      some { result := .double, index := some 102, deviation := some 5000 } ∧
    (matchLine (query 100999999800) (lastAt (some 102000000000))).2.part =
      some { result := .outOfOrder, index := some 101, deviation := some (-200) } := by decide

/-- Section 7.5, worked example: duplicate, overlaps with 101 and 100, and one picometre clear of 100. -/
theorem test_table_insert :
    (let s := withTable (table.take 2) State.reset
    out s (.tableInsert 101 0 5 0) = [0x21, 0, 1] ∧ out s (.tableInsert 150 100990000000 15000000 0) = [0x22, 0, 101] ∧
      out s (.tableInsert 151 100040000000 20000000 0) = [0x22, 0, 100] ∧
      out s (.tableInsert 151 100040000001 20000000 0) = [0x00, 0, 1]) := by decide

/-- Section 7.5, worked example: a retained graduation is kept by a delete without FORCE. -/
theorem test_table_delete :
    (let s := withTable (entry 9000 50000000000 20000000 true 0 :: table) State.reset
    out s (.tableDelete 9000 0) = [0x24, 0, 0] ∧ out s (.tableDelete 9000 1) = [0x00, 0, 0] ∧
      out s (.tableDelete 5 0) = [0x23, 0, 0]) := by decide

/-- Section 7.5, worked example: three removed, one remaining. -/
theorem test_table_flush :
    out (withTable (entry 9000 50000000000 20000000 true 0 :: table) State.reset) (.tableFlush 0) = [0x00, 0, 3, 0, 1] := by
  decide

theorem test_table_read : (out (withTable table State.reset) (.tableRead 1 102)).take 5 = [0x00, 0, 2, 0, 102] ∧
    (out (withTable table State.reset) (.tableRead 0 4096)).take 1 = [0x10] := by decide

/-! ## Scans and the carriage hold (chapter 8) -/

/-- A state in which a scan of axis 0 can be opened. -/
def openable : State :=
  withLock .locked { referenced with refr := { referenced.refr with env := .fresh } }

theorem test_scan_open :
    (let t := after (tx openable) (.scanOpen 7 0 0 0 0 200000000000)
    t.scan.state = .armed ∧ t.scan.descriptor = some (descriptor .forward)) ∧
    out openable (.scanOpen 7 0 0 0 5 5) = [0x16] ∧ out referenced (.scanOpen 7 0 0 0 0 5) = [0x1A] := by decide

theorem test_scan_active :
    (after (dueAll (report .positive true 0) (withScan .armed .forward referenced)) .scanActive).scan.state = .active := by
  decide

theorem test_stop_reached :
    (let t := after (dueAll (report .positive true 200000000001) (withScan .active .forward referenced)) .stopReached
    t.scan.state = .idle ∧ t.scan.endCause = some .stopReached ∧ t.capture.inFlight.length = 1) := by decide

/-- R143, R155: two graduations were not hit. -/
theorem test_scan_close :
    (let t := after (tx (withTable table (withScan .active .forward referenced))) .scanClose
    t.scan.missed = some 2 ∧ t.scan.state = .idle ∧ t.flagPending .scanEnded = true) := by decide

theorem test_scan_clear : out (withScan .aborted .forward State.reset) .scanClear = [0x00] ∧
    out State.reset .scanClear = [0x15] := by decide

/-- R164: HOLD_TIMEOUT is 200 reports. -/
theorem test_hold_unseen :
    (let t := after (dueAll (report .positive true 0)
        { State.reset with hold := { state := .holdPending, age := 199, unseen := false } }) .holdUnseen
    t.hold.unseen = true ∧ t.flagPending .holdUnseen = true) := by decide

/-- Section 8.6, worked example: the four moves of the hold, with the marks at 2 and 1. -/
def marks (n : Nat) (h : HoldState) : State :=
  withHold h (withMain ((List.range n).map fun k => record (BitVec.ofNat 32 k))
    { State.reset with params := { Params.default with highWater := 2, lowWater := 1 } })

theorem test_hold_compare : (holdCompare (marks 2 .run)).hold.state = .holdPending ∧
    (deliverHold true (marks 2 .holdPending).hold).state = .holding ∧
    (holdCompare (marks 1 .holding)).hold.state = .releasePending ∧
    (deliverHold false (marks 1 .releasePending).hold).state = .run := by decide

/-! ## Rings and events (chapter 9) -/

/-- R170, R190: fill 2, then the head record, of 23 bytes. -/
theorem test_read_record : (out (marks 2 .run) .readRecord).take 9 = [0, 0, 2, 0, 23, 0, 0, 0, 0] ∧
    out State.reset .readRecord = [3, 0, 0] := by decide

theorem test_read_exception : (out (withExc [record 9] State.reset) .readException).take 9 = [0, 0, 1, 0, 23, 0, 0, 0, 9] := by
  decide

/-- R171: one byte short of the whole answer keeps the head. -/
theorem test_transaction_end :
    (let s := after (tx (marks 2 .run)) .readRecord
    let n := (out (marks 2 .run) .readRecord).length
    (after s (.transactionEnd n)).main.records.length = 1 ∧ (after s (.transactionEnd (n - 1))).main.records.length = 2) := by
  decide

theorem test_read_events : out { State.reset with events := { pending := 0x804, mask := 0 } } .readEvents = [0, 8, 4] ∧
    (after (tx { State.reset with events := { pending := 0x804, mask := 3 } }) .readEvents).events =
      { pending := 0, mask := 3 } := by decide

theorem test_set_event_mask : (after (tx State.reset) (.setEventMask 0x0FFF)).events.mask = 0xFFF ∧
    out State.reset (.setEventMask 0x1000) = [0x10] := by decide

/-! ## Ports (chapter 10) -/

theorem test_transaction_begin : (after State.reset .transactionBegin).mp = (tx State.reset).mp := by decide

/-- R183: device 4120, revision 1, and the capacities. -/
theorem test_identify :
    out State.reset .identify = [0x00, 0x10, 0x18, 0x01, 0x04, 0x04, 0x08, 0x02, 0x00, 0x00, 0x80, 0x10, 0x00] := by decide

/-- R183: channel 0 TRACKING on GENERATOR with 9 breaks and count −1, and UNLOCKED under LOCK_OVERRIDE, effective LOCKED. -/
theorem test_read_status_codes :
    (let s := withChannel { tracking (-1) 0 with source := .generator, breaks := 9 }
      { State.reset with params := { Params.default with lockOverride := true } }
    ((out s .readStatus).drop 1).take 15 = [2, 0, 1, 0, 0, 0, 9, 255, 255, 255, 255, 255, 255, 255, 255] ∧
      ((out s .readStatus).drop 61).take 7 = [0, 2, 0, 0, 0, 0, 1]) := by decide

/-- R183: N in use stands at byte 67 of the response. -/
theorem test_read_status : ((out State.reset .readStatus).drop 68).take 4 = [0x00, 0x29, 0x32, 0xE0] := by decide

theorem test_unknown_command : out State.reset (.unknownCommand 0x13) = [0x11] := by decide

/-- R181: T_NS is clamped to 100..10000; 0x0001 is not in the table. -/
theorem test_set_param : out State.reset (.setParam 0x0091 50) = [0x01, 0, 0, 0, 100] ∧
    out State.reset (.setParam 0x0001 0) = [0x10, 0, 0, 0, 0] := by decide

theorem test_get_param : out State.reset (.getParam 0x0060) = [0x00, 0x25, 0xBA, 0xAD, 0xED] := by decide

theorem test_set_param_weight :
    (let t := after (tx referenced) (.setParamWeight 0 0 0)
    t.axes.a0.state = .undefined ∧ (t.params.weight.get 0).get 0 = 0) := by decide

theorem test_set_param_lambda : (after (tx referenced) (.setParamLambda 632991214)).axes.a0.state = .unreferenced ∧
    (after (tx referenced) (.setParamLambda 632991213)).axes.a0.state = .referenced := by decide

theorem test_set_param_path_k : (after (tx referenced) (.setParamPathK 0 8)).axes.a0.state = .unreferenced ∧
    out referenced (.setParamPathK 0 3) = [0x10, 0, 0, 0, 4] := by decide

theorem test_set_param_dead_path : (after (tx referenced) (.setParamDeadPath 0 7)).params.channel.a0.deadPath = 7 := by
  decide

/-- R44: channel 0 is weighted in axis 0. -/
theorem test_set_param_tracker_ch : out State.reset (.setParamTrackerCh 0) = [0x1F, 0, 0, 0, 255] ∧
    (after (tx State.reset) (.setParamTrackerCh 3)).params.trackerCh = some 3 := by decide

theorem test_set_param_lock_override :
    (let t := after (tx (withScan .armed .forward { referenced with params := { Params.default with lockOverride := true } }))
        (.setParamLockOverride 0)
    t.scan.state = .aborted ∧ t.scan.endCause = some .laserUnlock) := by decide

/-- R6: AMP_MIN stays below AMP_MAX; AMP_MAX lowers AMP_MIN. -/
theorem test_set_param_amp : out State.reset (.setParamAmpMin 1 30000) = [0x01, 0, 0, 0x75, 0x2F] ∧
    (after (tx State.reset) (.setParamAmpMax 1 64)).params.channel.a1.ampMin = 64 ∧
    (after (tx State.reset) (.setParamAmpMax 1 64)).params.channel.a1.ampMax = 65 := by decide

/-- R163: each mark is clamped by the other. -/
theorem test_set_param_water : out State.reset (.setParamHighWater 128) = [0x01, 0, 0, 0, 129] ∧
    out State.reset (.setParamLowWater 384) = [0x01, 0, 0, 1, 127] := by decide

/-- R182, worked example: −1,000,000 is H −1 and L 4,293,967,296. -/
theorem test_set_param_servo_preset :
    (after (tx (after (tx State.reset) (.setParamServoPresetH 1 0xFFFFFFFF))) (.setParamServoPresetL 1 4293967296)).params.servoPreset.a1 =
      -1000000 := by decide

/-- R177: parameters are kept. -/
theorem test_restart :
    (let t := after (tx (withTable table { referenced with params := { Params.default with tNs := 300 } })) .restart
    t.params.tNs = 300 ∧ t.channels.a0 = .reset ∧ (t.matcher.table.map fun e => e.hits) = [0, 0, 0]) := by decide

theorem test_device_reset :
    after { referenced with params := { Params.default with tNs := 300 } } (.deviceReset false) = State.reset := by decide

/-- R184, R186: the first frame at reset: UNLOCKED, STALE. -/
theorem test_sync_arrival :
    (((after State.reset .syncArrival).sv.frame.map fun f => f.bytes.take 3) = some [0, 16, 0]) := by decide

theorem test_servo_frame_completion :
    (let t := after (after State.reset .syncArrival) (.servoFrameCompletion 0x50)
    t.sv.counter = 1 ∧ t.sv.frame = none ∧ t.sv.request = some 0x50) := by decide

theorem test_servo_request_none : (after (withRequest 0x00 State.reset) .servoRequestNone).sv.result = .none ∧
    (after (withRequest 0x00 State.reset) .servoRequestNone).sv.request = none := by decide

/-- Section 10.4: the homing request for axis 0 and REF0. -/
theorem test_servo_datum_arm :
    (let t := after (withRequest 0x40 referenced) .servoDatumArm
    t.sv.result = .accepted ∧ t.slots.a0.state = .armed ∧ t.slots.a0.source = .ref0) := by decide

theorem test_servo_datum_cancel :
    (after (withRequest 0x80 (withSlot .armed (some .measurement) .ref0 0 referenced)) .servoDatumCancel).sv.result =
      .notOwner := by decide

theorem test_servo_capture :
    ((after (withRequest 0xC0 referenced) .servoCapture).capture.inFlight.map fun c => c.latch) = [emptyLatch] := by decide

/-- R188: address 0x4E with ADDR low; 0x00293468 is 2,700,392. -/
theorem test_env_write_begin :
    (after State.reset (.envWriteBegin 0x4E false [0x00, 0x00])).env.message = some [0x00, 0x00] ∧
    (after State.reset (.envWriteBegin 0x4F false [0x00])).env.message = none := by decide

/-- The state in which a write has collected its bytes. -/
def written (bytes : List Byte) (s : State) : State := { s with env := { s.env with message := some bytes } }

theorem test_env_update :
    (after (written [0x00, 0x00, 0x29, 0x34, 0x68] State.reset) .envUpdate).refr.pending = some 2700392 ∧
    (after (written [0x00, 0x00, 0x3D, 0x09, 0x01] State.reset) .envUpdate).refr.result = .clamped := by decide

theorem test_malformed_update :
    (after (written [0x00, 0x00, 0x29, 0x34] State.reset) .malformedUpdate).refr.result = .malformed := by decide

theorem test_pointer_set : (after (written [0x08] State.reset) .pointerSet) = State.reset := by decide

/-- R189: NONE, STALE, N = 2,700,000. -/
theorem test_status_block_read :
    (after State.reset (.statusBlockRead 0x4F true)).env.out = [0, 1, 0x00, 0x29, 0x32, 0xE0] := by decide

/-! ## States and operands that meet the hypotheses of each statement, clause by clause -/

/-- A state with a transaction open waits for its command. -/
theorem test_waits : (tx State.reset).Waits ∧ ¬ State.reset.Waits ∧ ¬ (after (tx State.reset) .identify).Waits := by
  refine ⟨⟨rfl, rfl⟩, ?_, ?_⟩ <;> unfold State.Waits <;> decide

theorem test_meets_StepRunsTheFrontCommand :
    { State.reset with pending := [Instr.identify, .restart] }.pending = .identify :: [.restart] ∧
    State.reset.pending = [] := by decide

theorem test_meets_TransactionsBeginEndAndIgnore :
    ({ State.reset with resetLow := true }.resetLow = true ∧ (∀ n, Instr.identify ≠ .transactionEnd n) ∧
      ∀ h, Instr.identify ≠ .deviceReset h) ∧
    ((summaryRow .identify).isSome = true ∧ ¬ State.reset.Waits) ∧
    (State.reset.resetLow = false ∧ State.reset.mp.selected = false ∧ State.reset.main.headUnderRead = false ∧
      State.reset.exc.headUnderRead = false) ∧
    ((tx State.reset).resetLow = false ∧ (tx State.reset).mp.selected = true) ∧
    ((tx State.reset).Waits ∧ ∀ i n, summaryRow i ≠ some (0x13, n)) := by
  refine ⟨⟨rfl, by simp, by simp⟩, ⟨rfl, test_waits.2.1⟩, by decide, by decide, test_waits.1, ?_⟩
  intro i n; cases i <;> simp [summaryRow]

theorem test_meets_EveryCommandIsAnswered :
    summaryRow .captureNow = some (0x23, 0) ∧ responseBytes 0x23 = some 4 ∧ (tx State.reset).Waits ∧
    State.reset.mp.transaction = none ∧ State.reset.resetLow = false ∧ State.reset.mp.selected = false :=
  ⟨rfl, by decide, test_waits.1, rfl, rfl, rfl⟩

/-- R178: SET EVENT MASK takes two argument bytes; 0x00 goes out under code and arguments, then the status, then 0x00. -/
theorem test_mp_miso :
    ((List.range 5).map (after (tx State.reset) (.setEventMask 0x1000)).mpMiso) = [0x00, 0x00, 0x00, 0x10, 0x00] ∧
    ((List.range 5).map (after (tx State.reset) .captureNow).mpMiso) = [0x00, 0x00, 0x00, 0x00, 0x00] ∧
    (after (tx State.reset) (.getParam 0x0091)).mpMiso 7 = 250 ∧ State.reset.mpMiso 0 = 0x00 := by decide

theorem test_meets_RefusalsChangeNothing :
    summaryRow .scanClear = some (0x42, 0) ∧ Instr.scanClear ≠ .captureNow ∧ (tx State.reset).Waits ∧
    exec .scanClear (tx State.reset) = .next ((tx State.reset).answer 0x42 0 [0x15]) ∧
    16 ≤ (0x15 : Byte).toNat :=
  ⟨rfl, by decide, test_waits.1, rfl, by decide⟩

theorem test_meets_RingReadsReturnAndRemoveTheHead :
    ((tx State.reset).Waits ∧ (tx State.reset).main.records = [] ∧ (tx State.reset).exc.records = []) ∧
    ((tx (marks 2 .run)).Waits ∧ (tx (marks 2 .run)).main.records = [record 0, record 1]) ∧
    ((tx (withExc [record 9] State.reset)).Waits ∧ (tx (withExc [record 9] State.reset)).exc.records = [record 9]) ∧
    (let s := after (tx (marks 2 .run)) .readRecord
    (s.resetLow = false ∧ s.mp.transaction.isSome = true ∧ s.main.headUnderRead = true ∧ s.exc.headUnderRead = false)) ∧
    (let s := after (tx (withExc [record 9] State.reset)) .readException
    (s.resetLow = false ∧ s.mp.transaction.isSome = true ∧ s.exc.headUnderRead = true ∧ s.main.headUnderRead = false)) :=
  ⟨⟨test_waits.1, rfl, rfl⟩, ⟨⟨rfl, rfl⟩, rfl⟩, ⟨⟨rfl, rfl⟩, rfl⟩, by decide, by decide⟩

/-- R190: a STROBE record without axes has 23 bytes; a LINE record with a match part counts direction, match and reason
in its length and its presence byte. -/
theorem test_record_bytes :
    (record 0x01020304).bytes =
      [0, 23, 1, 2, 3, 4, 1, 2, 0, 0, 0, 0, 0, 0x00, 0x29, 0x32, 0xE0, 0, 0, 0, 0, 0, 0] ∧
    (let r := { record 1 with
      kind := .line .line1 (.inside 0), direction := some .reverse, reason := some .stray
      matchPart := some { result := .stray, index := none, deviation := none } }
    r.bytes.take 2 = [0, 36] ∧ (r.bytes.drop 22).take 3 = [7, 1, 2] ∧ r.bytes.length = 36) := by decide

theorem test_meets_PhaseIsTheRoundedAngle : ((0 : Int) ≠ 0 ∨ (-1 : Int) ≠ 0) := by decide

theorem test_meets_GeneratorPairIsRounded : (32767 : Nat) ≤ 32767 ∧ (1023 : Nat) < 1024 := by decide

theorem test_meets_NeutralChannelSeesTheGeneratorPhase :
    (4096 : Nat) ≤ 4096 ∧ (4096 : Nat) ≤ 32767 ∧ (1023 : Nat) < 1024 ∧ ChannelParams.default.offsetS = 0 ∧
    ChannelParams.default.offsetC = 0 ∧ ChannelParams.default.gainC = 32768 ∧ ChannelParams.default.skew = 0 := by decide

/-- The parameters of a part that has been set up. -/
def params : Params := { Params.default with tNs := 300, lowWater := 100, testAdvance := 255 }

/-- A value lies in the range of its kind, as a Bool. -/
def inKind : ParamKind → Int → Bool
  | .numeric lo hi, v => decide (lo ≤ v ∧ v ≤ hi)
  | .codes values, v => decide (v ∈ values)

theorem inKind_holds (k : ParamKind) (v : Int) (h : inKind k v = true) : k.Holds v := by
  cases k <;> simpa [inKind, ParamKind.Holds] using h

/-- The law of the parameters, for parameters that are not all at their defaults. -/
theorem test_param_law : ParamLaw params := by
  refine ⟨fun q => inKind_holds _ _ ?_, by decide, by decide, by decide⟩
  cases q with
  | weight a c => revert a c; decide
  | lineEdge i | lineLatency i => cases i <;> decide
  | offsetS c | offsetC c | gainC c | skew c | ampMin c | ampMax c | pathK c | deadPath c | servoPresetH c
  | servoPresetL c | servoMap c => revert c; decide
  | _ => decide

theorem test_meets_AmplitudeIsTheIntegerRoot :
    ParamLaw params ∧ correctedSine (params.channel.get 0) 0 = 0 ∧ correctedCosine (params.channel.get 0) 0 0 = 0 ∧
    32767 < amplitude 32768 0 :=
  ⟨test_param_law, by decide, by decide, by decide⟩

theorem test_meets_SamplesAreCorrectedAndClassified :
    ((-32768 : Int) = -32768) ∧
    (¬ ((0 : Int) = -32768 ∨ (0 : Int) = 32767 ∨ (2999 : Int) = -32768 ∨ (2999 : Int) = 32767) ∧
      (amplitude 0 2999 : Int) < ChannelParams.default.ampMin) ∧
    (ChannelParams.default.ampMin ≤ amplitude 0 30001 ∧ ChannelParams.default.ampMax < amplitude 0 30001) ∧
    (ChannelParams.default.ampMin ≤ amplitude 0 3000 ∧ (amplitude 0 30000 : Int) ≤ ChannelParams.default.ampMax) := by
  decide

theorem test_meets_NumbersAreRoundedAndSentBigEndian : (0 : Int) < 1 ∧ IsRounded 1 2 1 ∧ IsRounded (-1) 2 (-1) := by
  unfold IsRounded; decide

theorem test_meets_ValuesFormSetsAndArrivalsTakeThem :
    sampleRow (.gateEnd 1 false) = some (1, false) ∧ State.reset.resetLow = false ∧ State.reset.samplePort.length < 7 ∧
    (port 0 0 State.reset).resetLow = false ∧ (port 0 0 State.reset).samplePort.length = 7 ∧
    ((port 0 0 State.reset).channels.get 0).source = .input ∧ (port 0 0 State.reset).due.test = false ∧
    ((port 0 0 (withChannel { tracking 0 0 with source := .generator } State.reset)).channels.get 0).source = .generator ∧
    (let s := port 0 0 (withChannel { tracking 0 0 with badRun := 7 } State.reset)
    (s.channels.get 0).state ≠ .lost ∧ ((after s (.gateEnd 0 false)).channels.get 0).state = .lost) := by decide

/-- The clauses of a channel's sample: settling, tracking with a bad sample at and before LOSS_PERSIST, and both losses. -/
theorem test_meets_ChannelTakesASample :
    Channel.reset.state = .off ∧
    classify (Params.default.channel.get 0) 0 0 = .bad .signalLow ∧
    classify (Params.default.channel.get 0) 0 16000 = .good 0 ∧
    ({ Channel.reset with state := .settling, settle := 8190 }.settle + 1 < 2 ^ (12 + Params.default.settleSel)) ∧
    (2 ^ (12 + Params.default.settleSel) ≤ { Channel.reset with state := .settling, settle := 8191 }.settle + 1 ∧
      inCountRange Channel.reset.count = true) ∧
    ((tracking 549755813887 1023).state = .tracking ∧ (tracking 549755813887 1023).lastPhase < 1024) ∧
    549755813887 < (tracking 549755813887 1023).count + 1 ∧ (tracking (-549755813887) 1).count + -1 < -549755813887 ∧
    (0 : Int) ≤ Params.default.stepLimit ∧ Params.default.stepLimit < ((385 : Int).natAbs : Int) ∧
    { tracking 0 0 with badRun := 6 }.badRun + 1 < Params.default.lossPersist ∧
    Params.default.lossPersist ≤ { tracking 0 0 with badRun := 7 }.badRun + 1 ∧
    { tracking 0 0 with state := .lost, cause := .overrange }.cause = .overrange ∧
    { tracking 0 0 with state := .lost, cause := .clipped }.cause ≠ .overrange := by decide

theorem test_meets_SettlingCompletesAligned :
    (let s := port (-16000) 0 (withChannel { Channel.reset with state := .settling, settle := 8191 } State.reset)
    s.resetLow = false ∧ s.samplePort.length = 7 ∧ (s.channels.get 0).state = .settling ∧
      (s.channels.get 0).source = .input ∧ inCountRange (s.channels.get 0).count = true ∧
      classify (s.params.channel.get 0) ((s.samplePort ++ [0]).getD 0 0).toInt ((s.samplePort ++ [0]).getD 1 0).toInt =
        .good 768 ∧
      2 ^ (12 + s.params.settleSel) ≤ (s.channels.get 0).settle + 1) ∧
    (let s := port 0 0 (withChannel { Channel.reset with state := .settling, source := .generator, settle := 8191 }
      shuttleEnd)
    s.resetLow = false ∧ s.samplePort.length = 7 ∧ s.due.test = false ∧ s.gen.running = true ∧
      (s.channels.get 0).state = .settling ∧ (s.channels.get 0).source = .generator ∧
      inCountRange (s.channels.get 0).count = true ∧ s.params.testPeriod ≤ s.gen.position ∧ s.gen.pattern = .shuttle ∧
      2 ^ (12 + s.params.settleSel) ≤ (s.channels.get 0).settle + 1) ∧
    classify (shuttleEnd.params.channel.get 0) (sineOf shuttleEnd.params.testAmp ((after (port 0 0 shuttleEnd) (.settleComplete 0 false)).gen.psi))
      (cosineOf shuttleEnd.params.testAmp ((after (port 0 0 shuttleEnd) (.settleComplete 0 false)).gen.psi)) =
      .good ((after (port 0 0 shuttleEnd) (.settleComplete 0 false)).gen.psi) := by decide

theorem test_meets_LossPersistEndsTracking :
    (let s := port 0 0 (withChannel { tracking 0 0 with badRun := 7 } referenced)
    s.resetLow = false ∧ s.samplePort.length = 7 ∧ (s.channels.get 0).state = .tracking ∧
      (s.channels.get 0).source = .input ∧
      classify (s.params.channel.get 0) ((s.samplePort ++ [0]).getD 0 0).toInt ((s.samplePort ++ [0]).getD 1 0).toInt =
        .bad .signalLow ∧
      s.params.lossPersist ≤ (s.channels.get 0).badRun + 1 ∧ (s.axes.get 0).state = .referenced ∧ s.due.datum = false ∧
      weighted s.params 0 0 = true ∧ (s.axes.get 0).datumBreaks.get 0 = (s.channels.get 0).breaks) := by decide

theorem test_meets_ChannelCommandsActOnTheirChannel :
    (tx referenced).Waits ∧ (3 : Byte).toNat = ((3 : Fin 4) : Nat) ∧ 4 ≤ (4 : Byte).toNat := ⟨⟨rfl, rfl⟩, rfl, by decide⟩

/-- A change that breaks axis 0, and one that breaks no axis, with and without an open scan. -/
theorem test_meets_BreaksReachTheAxesAndTheScan :
    axisBreaks referenced (referenced.channels.set 0 { tracking 0 0 with breaks := 6 }) 0 = true ∧
    (∀ j, axisBreaks referenced referenced.channels j = false) ∧
    (withScan .active .forward referenced).openScan = some (descriptor .forward) ∧ referenced.openScan = none := by decide

theorem test_meets_TestStartAndStopMoveSources :
    (tx State.reset).Waits ∧ ((0 : Byte).toNat = 0 ∧ 15 < (16 : Byte).toNat) ∧
    (1 ≤ (1 : Byte).toNat ∧ (15 : Byte).toNat ≤ 15) := ⟨test_waits.1, by decide, by decide⟩

theorem test_meets_GeneratorPeriodsAndAdvances :
    (let s := port 0 0 (withChannel { tracking 0 0 with source := .generator }
      { State.reset with gen := { Generator.reset with running := true, pattern := .dropout, position := 4095 } })
    sampleRow (.gateEnd 0 false) = some (0, false) ∧ s.motion.gateCounter + 1 ≠ s.motion.gateLength ∧
      s.resetLow = false ∧ s.samplePort.length = 7 ∧ s.due.test = false ∧ s.gen.running = true ∧
      s.gen.position < s.params.testPeriod ∧ s.params.testPeriod ≤ s.gen.position + s.params.testDrop ∧
      (s.channels.get 0).source = .generator) ∧
    (let s := port 0 0 shuttleEnd
    s.resetLow = false ∧ s.samplePort.length = 7 ∧ s.due.test = false ∧ s.gen.running = true ∧
      s.params.testPeriod ≤ s.gen.position) ∧
    (let s := dueAll (report .positive true 0) { State.reset with gen := { Generator.reset with running := true } }
    s.resetLow = false ∧ s.due.test = true ∧ s.gen.running = true ∧ s.params.testAdvance = 0 ∧ s.gen.advance ≤ 255) ∧
    (let s := dueAll (report .positive true 0)
      { State.reset with params := params, gen := { Generator.reset with running := true, advance := 254 } }
    s.resetLow = false ∧ s.due.test = true ∧ s.gen.running = true ∧ s.params.testAdvance ≠ 0 ∧ s.gen.advance ≤ 255 ∧
      s.params.testAdvance ≤ min (s.gen.advance + 1) 255) := by decide

theorem test_meets_LockMonitorFollowsArrivals :
    (port 0 0 State.reset).resetLow = false ∧ (port 0 0 State.reset).samplePort.length = 7 ∧
    (port 0 0 State.reset).lock.state = .unlocked ∧
    (let s := { State.reset with lock := { state := .settling, settle := 262142 } }
    s.lock.state = .settling ∧ s.lock.settle + 1 < 2 ^ (16 + s.params.lockSettle)) ∧
    (let s := { State.reset with lock := { state := .settling, settle := 262143 } }
    s.lock.state = .settling ∧ 2 ^ (16 + s.params.lockSettle) ≤ s.lock.settle + 1) ∧
    (let s := withLock .locked (port 0 0 (withScan .active .forward referenced))
    s.samplePort.length = 7 ∧ s.lock.state = .locked ∧ s.params.lockOverride = false ∧ s.due = .nothing ∧
      s.motion.gateCounter + 1 ≠ s.motion.gateLength ∧ s.openScan = some (descriptor .forward)) := by decide

/-- The state just before an arrival, with an environment. -/
def aged (env : EnvState) (age : Nat) (vacuum : Bool) : State :=
  port 0 0 { State.reset with refr := { State.reset.refr with env := env, age := age, vacuumInForce := vacuum } }

theorem test_meets_ArrivalsBringNIntoUseAndAgeIt :
    ((aged .fresh 39976959 false).resetLow = false ∧ (aged .fresh 39976959 false).samplePort.length = 7 ∧
      (aged .fresh 39976959 false).due.refractivity = false ∧
      (aged .fresh 39976959 false).motion.gateCounter + 1 ≠ (aged .fresh 39976959 false).motion.gateLength ∧
      (aged .fresh 39976959 false).refr.config.vacuum = false ∧
      (aged .fresh 39976959 false).params.envStaleLimit * 65536 ≤ (aged .fresh 39976959 false).refr.age + 1) ∧
    (aged .fresh 39976958 false).refr.age + 1 < (aged .fresh 39976958 false).params.envStaleLimit * 65536 ∧
    (aged .stale 5 false).refr.env = .stale ∧
    ((aged .fresh 0 true).refr.vacuumInForce = true ∧ (aged .fresh 0 true).refr.config.vacuum = false) ∧
    (let s := gateEnding (aged .fresh 39976959 false)
    s.resetLow = false ∧ s.samplePort.length = 7 ∧ s.due.refractivity = false ∧ s.refr.config.vacuum = false ∧
      s.motion.gateCounter + 1 = s.motion.gateLength ∧ s.refr.pending = none ∧ s.refr.held = none ∧
      Instr.sampleSetArrival 0 false ≠ .gateEnd 0 false ∧ s.refr.vacuumInForce = false) := by decide

/-- R41: the arrival that ends a gate is counted in the age, under GATE_END at once. -/
theorem test_gate_end_ages :
    (after (gateEnding (aged .fresh 39976959 false)) (.gateEnd 0 false)).refr.env = .stale ∧
    (after (gateEnding (aged .fresh 39976959 false)) (.gateEnd 0 false)).flagPending .envStale = true ∧
    (after (gateEnding (aged .fresh 39976958 false)) (.gateEnd 0 false)).refr.age = 39976959 := by decide

/-- A gate end for the Refractivity Unit, with a tracker on channel 3 of the stored configuration. -/
def gateEndRefr (tracker : TrackerState) (ch : ChannelState) : State :=
  let p := { Params.default with trackerCh := some 3 }
  let s := dueAll (report .positive true 0) (State.afterReset p [])
  { s with
    channels := s.channels.set 3 { tracking 97 97 with state := ch }
    refr := { s.refr with tracker := tracker } }

theorem test_meets_GateEndAdoptsTheConfiguration :
    (let s := gateEndRefr .following .tracking
    let u := { s with params := { s.params with lambda := 500000000 } }
    u.resetLow = false ∧ u.due.refractivity = true ∧ u.refr.tracker = .following ∧ u.params.refrConfig ≠ u.refr.config ∧
      u.refr.config.vacuum = false ∧ u.params.vacuum = false ∧ u.refr.pending = none ∧ u.refr.held = none ∧
      (0 ≤ u.refr.nInUse ∧ u.refr.nInUse ≤ 4000000) ∧ 0 < u.params.trackerLen ∧
      (∀ c, 0 < (u.params.channel.get c).pathK) ∧ (u.channels.get 3).state = .tracking) ∧
    (let s := gateEndRefr .following .lost
    let u := { s with params := { s.params with vacuum := true } }
    (s.channels.get 3).state ≠ .tracking ∧ u.refr.config.vacuum = false ∧ u.params.vacuum = true) ∧
    (let u := dueAll (report .positive true 0) (State.afterReset { Params.default with vacuum := true } [])
    u.refr.config.vacuum = true ∧ u.params.vacuum = true ∧ u.params.trackerCh = none) ∧
    (let s := dueAll (report .positive true 0) (State.afterReset { Params.default with vacuum := true } [])
    let u := { s with params := { s.params with vacuum := false } }
    u.refr.config.vacuum = true ∧ u.params.vacuum = false ∧ u.refr.pending = none ∧ u.refr.held = none ∧
      0 < u.params.trackerLen ∧ (∀ c, 0 < (u.params.channel.get c).pathK) ∧ u.params.trackerCh = none ∧
      u.refr.vacuumInForce = true) ∧
    (let s := gateEndRefr .frozen .tracking
    let u := { s with params := { s.params with trackerCh := some 2 } }
    u.refr.tracker ≠ .following ∧ u.refr.config.tracker ≠ u.params.trackerCh ∧
      (u.channels.get 2).state ≠ .tracking ∧ u.refr.config.vacuum = false) ∧
    (let s := gateEndRefr .frozen .tracking
    let u := { s with params := { s.params with trackerLen := 7 } }
    u.refr.tracker = .frozen ∧ u.refr.config.tracker = u.params.trackerCh ∧ u.params.trackerCh = some 3 ∧
      (u.channels.get 3).state = .tracking) ∧
    (dueAll (report .positive true 0) State.reset).refr.tracker = .absent := by decide

theorem test_meets_GateEndFormsN :
    (let s := gateEndRefr .following .tracking
    s.resetLow = false ∧ s.due.refractivity = true ∧ s.refr.config = s.params.refrConfig ∧ s.params.vacuum = false ∧
      s.refr.pending = none ∧ s.refr.held = none ∧ s.params.trackerCh = some 3 ∧ s.refr.tracker = .following ∧
      (s.channels.get 3).state = .tracking ∧ 0 < s.params.trackerLen ∧ 0 < (s.params.channel.get 3).pathK) ∧
    (let s := gateEndRefr .following .lost
    s.refr.config = s.params.refrConfig ∧ (s.channels.get 3).state ≠ .tracking) ∧
    (let s := gateEndRefr .frozen .tracking
    s.refr.config = s.params.refrConfig ∧ s.refr.tracker = .frozen ∧ (s.channels.get 3).state = .tracking) ∧
    (let s := gateEndRefr .frozen .settling
    s.refr.config = s.params.refrConfig ∧ (s.channels.get 3).state ≠ .tracking) ∧
    (let s := dueAll (report .positive true 0) State.reset
    s.refr.config = s.params.refrConfig ∧ s.refr.tracker = .absent ∧ s.refr.vacuumInForce = false ∧
      s.refr.env = .stale) ∧
    (let s := dueAll (report .positive true 0) (aged .fresh 39976959 false)
    s.refr.config = s.params.refrConfig ∧ s.refr.env = .fresh ∧
      s.params.envStaleLimit * 65536 ≤ s.refr.age + 1 ∧ 39976958 + 1 < s.params.envStaleLimit * 65536) := by decide

theorem test_meets_UpdatesAreAppliedHeldOrPromoted :
    (let s := dueAll (report .positive true 0) (withScan .active .forward State.reset)
    let u := { s with refr := { s.refr with pending := some 2700051 } }
    u.resetLow = false ∧ u.due.refractivity = true ∧ u.refr.config = u.params.refrConfig ∧ u.params.vacuum = false ∧
      0 < u.params.trackerLen ∧ (∀ c, 0 < (u.params.channel.get c).pathK) ∧ u.refr.pending = some 2700051 ∧
      (0 ≤ (2700051 : Int) ∧ (2700051 : Int) ≤ 4000000) ∧ u.scanIsOpen = true ∧
      u.params.envStepMax < ((2700051 - formN (trackerCount u)
        (u.refr.moveTracker (trackerTracking u) (trackerCount u))).natAbs : Int)) ∧
    (let s := dueAll (report .positive true 0) State.reset
    let u := { s with refr := { s.refr with held := some 4000000 } }
    u.refr.config = u.params.refrConfig ∧ u.refr.held = some 4000000 ∧ u.refr.pending = none ∧ u.scanIsOpen = false) ∧
    (let s := dueAll (report .positive true 0) State.reset
    let u := { s with refr := { s.refr with held := some 4000000, pending := some 0 } }
    u.refr.config = u.params.refrConfig ∧ u.refr.held = some 4000000 ∧ u.refr.pending = some 0 ∧ u.scanIsOpen = false) := by
  decide

theorem test_meets_EnvironmentWritesEnd :
    (written [0x00, 0x00, 0x3D, 0x09, 0x00] State.reset).resetLow = false ∧
    (written [0x00, 0x00, 0x3D, 0x09, 0x01] State.reset).env.message = some [0x00, 0x00, 0x3D, 0x09, 0x01] ∧
    ((written [0x00] State.reset).env.message = some [0x00] ∧ ([0x00] : List Byte) ≠ [0x08] ∧
      ∀ b3 b2 b1 b0 : Byte, ([0x00] : List Byte) ≠ [0x00, b3, b2, b1, b0]) ∧
    (written [0x08] State.reset).env.message = some [0x08] :=
  ⟨rfl, rfl, ⟨rfl, by decide, by simp⟩, rfl⟩

theorem test_meets_EnvironmentStartsAreTaken :
    State.reset.resetLow = false ∧ State.reset.env.message = none ∧
    ((0x4F : BitVec 7) = if true then 0x4F else 0x4E) ∧ ((0x4F : BitVec 7) ≠ if false then 0x4F else 0x4E) ∧
    (written [0x08] State.reset).env.message = some [0x08] := by decide

/-- R188: the address and the two bytes written are acknowledged; of a read the address alone; elsewhere, and after a
reset, nothing. -/
theorem test_env_ack :
    (let s := after State.reset (.envWriteBegin 0x4E false [0x00, 0x00])
    (List.range 4).map s.envAck = [true, true, true, false] ∧
    (List.range 2).map (after s (.statusBlockRead 0x4E false)).envAck = [true, false] ∧
    (after s (.envWriteBegin 0x50 false [0x08])).envAck 0 = false ∧ (after s (.deviceReset false)).envAck 0 = false) := by
  decide

/-- R189: N = 2,700,000 after result NONE and state STALE; 0x00 from byte 6 on. -/
theorem test_env_read :
    ((List.range 8).map (after State.reset (.statusBlockRead 0x4F true)).envRead) =
      [0, 1, 0x00, 0x29, 0x32, 0xE0, 0, 0] := by decide

/-- Both kinds of arrival, with the same gate length and with a new one. -/
theorem test_meets_GateEndsCloseTheGate :
    (sampleRow (.gateEnd 0 false) = some (0, false) ∧ (port 0 0 State.reset).resetLow = false ∧
      (port 0 0 State.reset).samplePort.length = 7 ∧
      (port 0 0 State.reset).motion.gateCounter + 1 ≠ (port 0 0 State.reset).motion.gateLength) ∧
    ((gateEnding State.reset).motion.gateCounter + 1 = (gateEnding State.reset).motion.gateLength ∧
      256 * 2 ^ (gateEnding State.reset).params.gateSel = (gateEnding State.reset).motion.gateLength) ∧
    (let s := gateEnding { State.reset with params := { Params.default with gateSel := 0 } }
    s.motion.gateCounter + 1 = s.motion.gateLength ∧ 256 * 2 ^ s.params.gateSel ≠ s.motion.gateLength) ∧
    AxisLaw (gateEnding State.reset) := by
  refine ⟨by decide, by decide, by decide, ?_⟩
  unfold AxisLaw; decide

/-- A gate end at which axis 0 tracks from a previous sum, with a reference velocity. -/
def measured (reference : Option Int) : State :=
  let s := gateEnding (withChannel { tracking 1024000 0 with source := .generator } State.reset)
  { s with
    motion :=
      { s.motion with
        axes := s.motion.axes.set 0 { s.motion.axes.a0 with prevSum := some 158205088, reference := reference } }
    gen := { Generator.reset with running := true } }

theorem test_meets_GateEndsMeasureEachAxis :
    (let s := measured (some 5)
    let t := after s (.sampleSetArrival 0 false)
    sampleRow (.sampleSetArrival 0 false) = some (0, false) ∧ Instr.sampleSetArrival 0 false ≠ .gateEnd 0 false ∧
      sampleRow (.gateEnd 0 false) = some (0, false) ∧ s.resetLow = false ∧ s.samplePort.length = 7 ∧ s.motion.gateCounter + 1 = s.motion.gateLength ∧
      256 * 2 ^ s.params.gateSel = s.motion.gateLength ∧ (t.axes.get 1).state = .undefined ∧
      (t.axes.get 0).state ≠ .undefined ∧ (s.motion.axes.get 0).prevSum = some 158205088 ∧ t.allTracking 0 = true ∧
      (s.motion.axes.get 0).reference = some 5) ∧
    ((measured none).motion.axes.get 0).reference = none ∧
    (let s := gateEnding State.reset
    let t := after s (.sampleSetArrival 0 false)
    (s.motion.axes.get 0).prevSum = none ∧ t.allTracking 0 = false) ∧
    AxisLaw (measured (some 5)) := by
  refine ⟨by decide, by decide, by decide, ?_⟩
  unfold AxisLaw; decide

/-- R90: the first gate of a new length still has a previous sum; the reference velocity is gone. -/
theorem test_new_length_keeps_sum :
    (let s := measured (some 5)
    let t := after { s with params := { s.params with gateSel := 0 } } (.gateLengthAdopted 0 false)
    t.motion.gateLength = 256 ∧ (t.motion.axes.get 0).prevSum.isSome = true ∧ (t.motion.axes.get 0).reference = none ∧
      (t.motion.axes.get 0).valid = true) := by decide

theorem test_no_number_one (q : Param) : tableNumber q ≠ (0x0001 : BitVec 16).toNat := by
  cases q with
  | lineEdge i | lineLatency i => cases i <;> decide
  | _ => simp only [tableNumber]; decide +revert

theorem test_meets_ParametersAreWrittenAndRead :
    (tx State.reset).Waits ∧ (∀ q, tableNumber q ≠ (0x0001 : BitVec 16).toNat) ∧
    ((0x0091 : BitVec 16).toNat = tableNumber .tNs ∧ hasOwnRow .tNs = false ∧
      tableKind .tNs = .numeric 100 10000 ∧ inArithmetic .tNs = true ∧ inArithmetic .hyst = false) ∧
    ((0x0090 : BitVec 16).toNat = tableNumber .gateSel ∧ hasOwnRow .gateSel = false ∧
      tableKind .gateSel = .codes [0, 1, 2, 3] ∧ (4 : BitVec 32).toInt ∉ ([0, 1, 2, 3] : List Int) ∧
      (3 : BitVec 32).toInt ∈ ([0, 1, 2, 3] : List Int) ∧ inArithmetic .gateSel = true) ∧
    ((params.trackerCh = none ∧ ({ params with trackerCh := some 3 } : Params).trackerCh = some 3) ∧
      params.servoMap.get 0 = some 0 ∧ ({ params with servoMap := .fill none } : Params).servoMap.get 0 = none) ∧
    (tx (withScan .armed .forward State.reset)).Waits ∧ (withScan .armed .forward State.reset).scanIsOpen = true ∧
    (tx State.reset).scanIsOpen = false :=
  ⟨test_waits.1, test_no_number_one, by decide, by decide, by decide, ⟨rfl, rfl⟩, by decide, by decide⟩

theorem test_meets_WeightWritesRedefineTheAxis :
    (tx referenced).Waits ∧ (0 : Fin 4) = indexOf 0 ∧ clampTo (-131072) 131071 (131072 : BitVec 32).toInt = 131071 ∧
    (tx (withScan .armed .forward referenced)).scanIsOpen = true ∧ referenced.scanIsOpen = false ∧
    (let s := State.afterReset { Params.default with trackerCh := some 3 } []
    (tx s).scanIsOpen = false ∧ s.params.trackerCh = some 3) ∧
    (referenced.params.weight.get 0).get 0 = 65536 ∧ (referenced.params.weight.get 0).get 1 = 0 ∧
    (∀ k, ((referenced.params.weight.set 0 ((referenced.params.weight.get 0).set 0 0)).get 0).get k = 0) :=
  ⟨⟨rfl, rfl⟩, by decide, by decide, by decide, by decide, by decide, by decide, by decide, by decide⟩

theorem test_meets_OpticsWritesUnreferenceAxes :
    (tx referenced).Waits ∧ referenced.scanIsOpen = false ∧ (withScan .armed .forward referenced).scanIsOpen = true ∧
    clampTo 400000000 1100000000 (1100000001 : BitVec 32).toInt = 1100000000 ∧ referenced.params.lambda = 632991213 ∧
    ¬ ((3 : BitVec 32).toInt = 2 ∨ (3 : BitVec 32).toInt = 4 ∨ (3 : BitVec 32).toInt = 8) ∧
    (4 : BitVec 32).toInt = (referenced.params.channel.get (indexOf 0)).pathK ∧
    (8 : BitVec 32).toInt ≠ (referenced.params.channel.get (indexOf 0)).pathK ∧
    clampTo 0 2000000 (2000001 : BitVec 32).toInt = 2000000 ∧
    (0 : BitVec 32).toInt = (referenced.params.channel.get (indexOf 0)).deadPath :=
  ⟨⟨rfl, rfl⟩, by decide, by decide, by decide, by decide, by decide, by decide, by decide, by decide, by decide⟩

theorem test_meets_TrackerAndOverrideWrites :
    (tx State.reset).Waits ∧ (¬ ((4 : BitVec 32).toInt = 255 ∨ (0 ≤ (4 : BitVec 32).toInt ∧ (4 : BitVec 32).toInt ≤ 3))) ∧
    (255 : BitVec 32).toInt = 255 ∧ (3 : BitVec 32).toInt = ((3 : Fin 4) : Nat) ∧ State.reset.scanIsOpen = false ∧
    (withScan .active .forward State.reset).scanIsOpen = true ∧ weighted State.reset.params 0 0 = true ∧
    (∀ j, weighted State.reset.params j 3 = false) ∧ ((2 : BitVec 32).toInt ≠ 0 ∧ (2 : BitVec 32).toInt ≠ 1) ∧
    (1 : BitVec 32).toInt = 1 ∧
    (let s := withScan .armed .forward { referenced with params := { Params.default with lockOverride := true } }
    s.lock.state ≠ .locked ∧ s.params.lockOverride = true ∧ s.openScan = some (descriptor .forward)) :=
  ⟨test_waits.1, by decide, by decide, by decide, by decide, by decide, by decide, by decide, by decide, by decide,
    by decide⟩

theorem test_meets_OrderedPairsStayInOrder :
    (tx State.reset).Waits ∧ (1 : Fin 4) = indexOf 1 ∧ clampTo 64 32767 (30000 : BitVec 32).toInt = 30000 ∧
    (tx State.reset).params.lowWater < (tx State.reset).params.highWater ∧ (tx State.reset).params.highWater ≤ 512 ∧
    ((129 : Nat) : Int) = clampTo ((tx State.reset).params.lowWater + 1) 512 (128 : BitVec 32).toInt ∧
    ((383 : Nat) : Int) = clampTo 0 ((tx State.reset).params.highWater - 1) (384 : BitVec 32).toInt :=
  ⟨test_waits.1, by decide, by decide, by decide, by decide, by decide, by decide⟩

theorem test_meets_PresetHalvesFormAPreset :
    (tx State.reset).Waits ∧ (1 : Fin 4) = indexOf 1 ∧ clampTo (-32768) 32767 (0xFFFFFFFF : BitVec 32).toInt = -1 ∧
    (-1 : Int) * 4294967296 + (tx State.reset).params.servoPreset.get 1 % 4294967296 = -4294967296 ∧
    clampTo (-140737488355327) 140737488355327 (-4294967296) = -4294967296 :=
  ⟨test_waits.1, by decide, by decide, by decide, by decide⟩

theorem test_meets_ReadAxisReportsThePosition :
    (tx referenced).Waits ∧ 4 ≤ (4 : Byte).toNat ∧ (3 : Byte).toNat = ((3 : Fin 4) : Nat) ∧
    (∀ c, 0 < ((tx referenced).params.channel.get c).pathK) ∧ 0 ≤ (tx referenced).refr.nInUse ∧
    ((tx referenced).axes.get 0).state = .referenced ∧ (State.reset.axes.get 0).state = .unreferenced ∧
    ((tx referenced).axes.get 1).state = .undefined :=
  ⟨⟨rfl, rfl⟩, by decide, by decide, by decide, by decide, by decide, by decide, by decide⟩

theorem test_meets_DatumRequestsFillTheirSlot :
    (tx referenced).Waits ∧ 2 ≤ (2 : Byte).toNat ∧ (0 : Byte).toNat = ((0 : Fin 4) : Nat) ∧
    (2 : Byte).toNat = DatumSource.immediate.code ∧ (-140737488355327 ≤ (5 : BitVec 64).toInt) ∧
    (referenced.axes.get 0).state ≠ .undefined ∧ referenced.allTracking 0 = true ∧
    (referenced.slots.get 0).state = .idle ∧ (referenced.axes.get 1).state = .undefined ∧
    ((State.reset.axes.get 0).state ≠ .undefined ∧ State.reset.allTracking 0 = false) ∧
    (let s := withSlot .armed (some .servo) .ref0 0 referenced
    (s.slots.get 0).state ≠ .idle ∧ (s.slots.get 0).owner ≠ some .measurement) ∧
    (let s := withRequest 0x48 referenced
    s.resetLow = false ∧ s.sv.request = some 0x48 ∧ (0x48 : Byte).toNat / 64 = 1 ∧
      (0x48 : Byte).toNat / 16 % 4 = ((0 : Fin 4) : Nat)) ∧
    (let s := withRequest 0x40 (withSlot .armed (some .measurement) .ref0 0 referenced)
    (s.slots.get 0).state ≠ .idle ∧ (s.slots.get 0).owner ≠ some .servo) :=
  ⟨⟨rfl, rfl⟩, by decide, by decide, by decide, by decide, by decide, by decide, by decide, by decide, by decide,
    by decide, by decide, by decide⟩

theorem test_meets_DatumCancelsEndOwnRequests :
    (tx State.reset).Waits ∧ 4 ≤ (4 : Byte).toNat ∧ (3 : Byte).toNat = ((3 : Fin 4) : Nat) ∧
    (State.reset.slots.get 3).state = .idle ∧
    (let s := withSlot .armed (some .measurement) .ref0 0 referenced
    (s.slots.get 0).state ≠ .idle ∧ (s.slots.get 0).owner = some .measurement) ∧
    (let s := withSlot .armed (some .servo) .ref0 0 referenced
    (s.slots.get 0).state ≠ .idle ∧ (s.slots.get 0).owner ≠ some .measurement) ∧
    (after State.reset .syncArrival).sv.frame.isSome = true ∧ State.reset.sv.request = none ∧
    (let s := withRequest 0xBF State.reset
    s.resetLow = false ∧ s.sv.request = some 0xBF ∧ (0xBF : Byte).toNat / 64 = 2 ∧
      (0xBF : Byte).toNat / 16 % 4 = ((3 : Fin 4) : Nat)) :=
  ⟨test_waits.1, by decide, by decide, by decide, by decide, by decide, by decide, by decide, by decide⟩

theorem test_meets_ReferenceMarksApplyDatums :
    (let s := withSlot .armed (some .servo) .ref0 0 referenced
    s.resetLow = false ∧ 0 ≤ s.refr.nInUse ∧ (s.slots.get 0).state = .armed ∧
      (s.slots.get 0).source = sourceOfRef .ref0 ∧ (s.slots.get 0).edge = .rising ∧ s.allTracking 0 = true) ∧
    (let s := withSlot .armed (some .servo) .ref0 0 State.reset
    (s.slots.get 0).state = .armed ∧ s.allTracking 0 = false) ∧
    (State.reset.slots.get 0).state ≠ .armed := by decide

/-- R86, R107: the DATUM captures of one event are accepted in ascending order of axis, whatever the mask selects. -/
theorem test_datum_captures_ascend :
    (let s := withSlot .armed (some .servo) .ref0 0 referenced
    let u := { s with
      slots := s.slots.set 2 (s.slots.get 0), params := { s.params with captureAxes := 0 }
      axes := s.axes.set 2 { s.axes.get 2 with state := .unreferenced } }
    (after u (.referenceMarkEvent .ref0 .rising)).capture.inFlight.map fun q => q.latch.axes.map fun a => a.axis) =
      [[0], [2]] := by decide

theorem test_meets_GateReportsApplyAndExpireDatums :
    (let s := dueAll (report .positive true 0) (withSlot .armed (some .servo) .immediate 0 referenced)
    s.resetLow = false ∧ s.due.datum = true ∧ (s.slots.get 0).state = .armed ∧ (s.slots.get 0).source = .immediate ∧
      s.allTracking 0 = true) ∧
    (withSlot .armed (some .servo) .immediate 0 State.reset).allTracking 0 = false ∧
    (let s := withSlot .armed (some .servo) .ref0 1 referenced
    (s.slots.get 0).source ≠ .immediate ∧ (s.slots.get 0).timeout ≠ 0 ∧
      min ((s.slots.get 0).age + 1) 65535 = (s.slots.get 0).timeout) ∧
    ((withSlot .armed (some .servo) .ref0 2 referenced).slots.get 0).timeout ≠ 1 := by decide

theorem test_meets_LatchesHoldOneSampleSet :
    (∃ a, a ∈ (latchNow referenced (some 3)).axes) ∧
    ((withScan .active .forward referenced).scan.state = .active ∧
      (withScan .active .forward referenced).scan.descriptor = some (descriptor .forward)) ∧
    referenced.scan.state = .idle := by
  refine ⟨⟨latchAxis referenced 0, by decide⟩, by decide, by decide⟩

/-- R26: a capture latches the states and sources of the channels. -/
theorem test_capture_keeps_channels :
    ((after (tx (withChannel { tracking 0 0 with source := .generator } State.reset)) .captureNow).capture.inFlight.map
        fun q => q.latch.channels.get 0) =
      [{ state := .tracking, source := .generator }] := by decide

/-- R73: every capture latches state, epoch, offset and N_dat of every axis, the ones it does not list too. -/
theorem test_capture_context :
    (let s := { referenced with
      axes := referenced.axes.set 1 { referenced.axes.get 1 with state := .broken, offset := -9, nDat := 2600000, epoch := 4 } }
    (after (tx s) .captureNow).capture.inFlight.map fun q => q.latch.context.get 1) =
      [{ state := .broken, epoch := 4, offset := -9, nDat := 2600000 }] := by decide

theorem test_meets_CaptureRequestsAreAccepted :
    (State.reset.resetLow = false ∧ Edge.falling ≠ lineEdge State.reset.params .line0 ∧
      Edge.rising = lineEdge State.reset.params .line0 ∧ State.reset.scan.state ≠ .active ∧
      State.reset.params.keepOutside = false) ∧
    (let s := withScan .active .forward referenced
    s.scan.state = .active ∧ s.scan.descriptor = some (descriptor .forward) ∧ (descriptor .forward).line = .line0) ∧
    { Params.default with keepOutside := true }.keepOutside = true ∧ (tx State.reset).Waits ∧
    (let s := withRequest 0xC0 State.reset
    s.resetLow = false ∧ s.sv.request = some 0xC0 ∧ (0xC0 : Byte).toNat / 64 = 3 ∧ s.sv.latch = some emptyLatch) :=
  ⟨by decide, by decide, rfl, test_waits.1, by decide⟩

/-- One capture of every kind and mark that a report of gate 0 finalizes. -/
def finalizing (kind : CaptureKind) : State :=
  dueAll (report .positive true 0)
    (withCaptures [capture 4 kind [latched 100000000412]] (withTable table (withScan .active .forward referenced)))

/-- R118: the value, the latched state and the latched epoch of the scan axis entry reach the matcher. -/
theorem test_line_query :
    (let q := lineQuery Params.default (report .positive true 0)
      (capture 4 (.line .line0 (.inside 0)) [{ latched 100000000412 with epoch := 7 }]) 0
    q.x = 100000000412 ∧ q.state = .referenced ∧ q.epoch = 7 ∧ q.seq = 4) := by decide

theorem test_meets_FinalizationMakesTheRecord :
    State.reset.due.capture = none ∧
    (let s := dueAll (report .positive true 0) State.reset
    s.resetLow = false ∧ s.due.capture = some (report .positive true 0) ∧
      (s.capture.inFlight.filter fun q => q.gate == (report .positive true 0).gate) = []) ∧
    (let s := finalizing (.line .line0 (.inside 0))
    s.resetLow = false ∧ s.due.capture = some (report .positive true 0) ∧
      s.capture.inFlight = [capture 4 (.line .line0 (.inside 0)) [latched 100000000412]] ∧
      0 < (report .positive true 0).length ∧ 0 < (report .positive true 0).tNs ∧
      ([latched 100000000412].find? fun a => a.axis == 0) = some (latched 100000000412) ∧
      inLengthRange (latched 100000000412).value = true ∧ ((report .positive true 0).axes.get 0).valid = true) ∧
    (capture 4 (.line .line1 .outside) []).latch.axes = [] ∧
    ((report .negative false 0).axes.get 0).valid = false ∧ ((report .zero true 0).axes.get 0).sign = .zero ∧
    (capture 4 (.strobe .servo) []).kind = .strobe .servo := by decide

theorem test_meets_RecordsAreCommittedOrDropped :
    (marks 2 .run).main.records.length < 512 ∧
    (∀ q, q ∈ (marks 2 .run).main.records ∨ q ∈ (marks 2 .run).exc.records → q.seq ≠ (record 9).seq) ∧
    (∃ q, (q ∈ (marks 2 .run).main.records ∨ q ∈ (marks 2 .run).exc.records) ∧ q.seq = (record 1).seq) ∧
    (marks 2 .run).exc.records.length < 128 := by
  refine ⟨by decide, ?_, ⟨record 1, by decide, rfl⟩, by decide⟩
  intro q h
  have hq : q = record 0 ∨ q = record 1 := by
    simpa [marks, withHold, withMain, List.range, List.range.loop, State.reset, State.afterReset, Ring.reset] using h
  rcases hq with rfl | rfl <;> decide

/-- The law of the table holds of the tables used here. -/
theorem test_table_law : TableLaw table ∧ TableLaw (entry 9000 50000000000 20000000 true 0 :: table) := by
  unfold TableLaw Entry.InRange; decide

theorem test_meets_LinesAreMatched :
    (lastAt (some 102000000000)).scan.descriptor = some (descriptor .forward) ∧
    TableLaw (lastAt (some 102000000000)).matcher.table ∧
    ((query 0).state = .referenced ∧ (query 0).valid = true ∧ (query 0).fast = false) ∧
    (∀ e, e ∈ table → ¬ (e.nominal - e.halfWindow ≤ 100600000000 ∧ (100600000000 : Int) ≤ e.nominal + e.halfWindow)) ∧
    (table[0]? = some (entry 100 100000000000 20000000 false 0) ∧
      (100000000000 : Int) - 20000000 ≤ 100020000000 ∧ (100020000000 : Int) ≤ 100000000000 + 20000000) ∧
    table[2]? = some (entry 102 102000000000 20000000 false 1) :=
  ⟨by decide, test_table_law.1, by decide, by decide, by decide, by decide⟩

theorem test_meets_InsertionsKeepTheTable :
    (tx (withTable table State.reset)).Waits ∧ 2 ≤ (2 : Byte).toNat ∧ (1 : Byte).toNat ≤ 1 ∧
    (1000000000 : BitVec 32).toNat ≤ 1000000000 ∧ 1000000000 < (1000000001 : BitVec 32).toNat ∧
    -140737488355327 ≤ (100990000000 : BitVec 64).toInt ∧ (withScan .armed .forward State.reset).scanIsOpen = true ∧
    (tx (withTable table State.reset)).scanIsOpen = false ∧ table.length < 4096 ∧ TableLaw table ∧
    (table[1]? = some (entry 101 101000000000 20000000 false 0) ∧ (entry 101 0 1 false 0).index = (101 : BitVec 16).toNat) ∧
    (∀ e, e ∈ table → e.index ≠ (151 : BitVec 16).toNat) ∧
    (∀ e, e ∈ table →
      e.nominal + e.halfWindow < (100040000001 : BitVec 64).toInt - (20000000 : BitVec 32).toNat ∨
      (100040000001 : BitVec 64).toInt + (20000000 : BitVec 32).toNat < e.nominal - e.halfWindow) :=
  ⟨⟨rfl, rfl⟩, by decide, by decide, by decide, by decide, by decide, by decide, by decide, by decide,
    test_table_law.1, by decide, by decide, by decide⟩

/-- The clauses of a full table, of full rings and of eight captures in flight. -/
theorem test_meets_full_stores :
    4096 ≤ (tx (withTable (List.replicate 4096 (entry 1 0 1 false 0)) State.reset)).matcher.table.length ∧
    512 ≤ (withMain (List.replicate 512 (record 1)) State.reset).main.records.length ∧
    128 ≤ (withExc (List.replicate 128 (record 1)) State.reset).exc.records.length ∧
    8 ≤ (withCaptures (List.replicate 8 (capture 1 (.strobe .servo) [])) State.reset).capture.inFlight.length :=
  ⟨(List.length_replicate (n := 4096)).ge, (List.length_replicate (n := 512)).ge, (List.length_replicate (n := 128)).ge,
    (List.length_replicate (n := 8)).ge⟩

theorem test_meets_TableCommandsAreAnswered :
    (tx (withTable table State.reset)).Waits ∧ 2 ≤ (2 : Byte).toNat ∧ (1 : Byte).toNat ≤ 1 ∧
    (withScan .armed .forward State.reset).scanIsOpen = true ∧ (withTable table State.reset).scanIsOpen = false ∧
    (∀ e, e ∈ table → e.index ≠ (5 : BitVec 16).toNat) ∧
    TableLaw (entry 9000 50000000000 20000000 true 0 :: table) ∧
    ((entry 9000 50000000000 20000000 true 0 :: table)[0]? = some (entry 9000 50000000000 20000000 true 0) ∧
      (entry 9000 50000000000 20000000 true 0).retained = true) ∧
    4096 ≤ (4096 : BitVec 16).toNat ∧ (table.length ≤ (4095 : BitVec 16).toNat ∧ (4095 : BitVec 16).toNat < 4096) ∧
    (table[2]? = some (entry 102 102000000000 20000000 false 1) ∧ (2 : BitVec 16).toNat = 2) :=
  ⟨⟨rfl, rfl⟩, by decide, by decide, by decide, by decide, by decide, test_table_law.2, by decide, by decide, by decide,
    by decide⟩

theorem test_meets_ScansAreOpened :
    (tx openable).Waits ∧ (0 : Byte) = 0 ∧ 1 ≤ (descriptor .forward).id ∧ (7 : Byte).toNat = (descriptor .forward).id ∧
    (200000000000 : BitVec 64).toInt = (descriptor .forward).stop ∧ inLengthRange (descriptor .forward).stop = true ∧
    (descriptor .forward).start < (descriptor .forward).stop ∧ (descriptor .reverse).stop < (descriptor .reverse).start ∧
    (withScan .aborted .forward openable).scan.state ≠ .idle ∧ openable.scan.state = .idle ∧
    ((openable.axes.get 0).state = .referenced ∧ openable.lock.state = .locked ∧ openable.refr.env = .fresh) ∧
    (State.reset.axes.get 0).state ≠ .referenced ∧
    ((referenced.axes.get 0).state = .referenced ∧ referenced.lock.state ≠ .locked ∧ referenced.params.lockOverride = false) ∧
    (let s := withLock .locked referenced
    s.refr.env = .stale ∧ s.refr.vacuumInForce = false) :=
  ⟨⟨rfl, rfl⟩, by decide, by decide, by decide, by decide, by decide, by decide, by decide, by decide, by decide,
    by decide, by decide, by decide, by decide⟩

theorem test_meets_ScansEnd :
    (let s := withCaptures [capture 4 (.line .line0 (.inside 0)) [], capture 5 (.strobe .servo) []]
      (withTable table (withScan .active .reverse referenced))
    s.openScan = some (descriptor .reverse) ∧
      s.capture.inFlight[0]? = some (capture 4 (.line .line0 (.inside 0)) []) ∧
      s.capture.inFlight[1]? = some (capture 5 (.strobe .servo) [])) ∧
    (tx (withScan .active .forward referenced)).Waits ∧
    (tx State.reset).Waits ∧ State.reset.scan.state = .idle ∧ (withScan .aborted .forward State.reset).scan.state = .aborted :=
  ⟨by decide, ⟨rfl, rfl⟩, test_waits.1, by decide, by decide⟩

theorem test_meets_GateReportsMoveTheScan :
    (let s := dueAll (report .positive true 0) (withScan .armed .forward referenced)
    s.resetLow = false ∧ s.due.scan = some (report .positive true 0) ∧ s.scan.descriptor = some (descriptor .forward) ∧
      s.scan.state = .armed ∧ (descriptor .forward).start ≤ ((report .positive true 0).axes.get 0).value ∧
      ((report .positive true (-1)).axes.get 0).value < (descriptor .forward).start) ∧
    ((descriptor .forward).stop < ((report .positive true 200000000001).axes.get 0).value ∧
      ((report .positive true 200000000000).axes.get 0).value ≤ (descriptor .forward).stop) ∧
    (((report .negative true (-1)).axes.get 0).value < (descriptor .reverse).stop ∧
      (descriptor .reverse).stop ≤ ((report .negative true 0).axes.get 0).value) ∧
    (dueAll (report .positive true 0) State.reset).scan.state = .idle := by decide

theorem test_meets_TheHoldFollowsTheFill :
    ((marks 2 .run).params.highWater ≤ (marks 2 .run).main.records.length ∧
      (marks 1 .run).main.records.length < (marks 1 .run).params.highWater) ∧
    ((marks 1 .holdPending).main.records.length ≤ (marks 1 .holdPending).params.lowWater ∧
      (marks 2 .holdPending).params.lowWater < (marks 2 .holdPending).main.records.length) ∧
    ((marks 1 .holding).hold.state = .holding ∧ (marks 2 .releasePending).hold.state = .releasePending) ∧
    (let s := dueAll (report .positive true 0)
      { State.reset with hold := { state := .holdPending, age := 199, unseen := false } }
    s.resetLow = false ∧ s.due.hold = true ∧ s.params.holdTimeout ≤ s.hold.age + 1) ∧
    (let s := dueAll (report .positive true 0)
      { State.reset with hold := { state := .holdPending, age := 198, unseen := false } }
    s.hold.age + 1 < s.params.holdTimeout) := by decide

theorem test_meets_ServoFramesShowTheLastSampleSet :
    (State.reset.resetLow = false ∧ State.reset.sv.request = none ∧ 0 < State.reset.params.servoUnit ∧
      State.reset.params.servoMap.get 3 = some 3 ∧ State.reset.sv.frame = none) ∧
    (({ Params.default with servoMap := ⟨none, none, none, none⟩ } : Params).servoMap.get 0 = none) ∧
    (withRequest 0x3F State.reset).sv.request = some 0x3F ∧ (0x3F : Byte).toNat / 64 = 0 ∧
    (withRequest 0x3F State.reset).sv.latch = some emptyLatch ∧
    (after State.reset .syncArrival).sv.frame.isSome = true := by decide

/-- R184, R185: 0x00 without a frame; a frame's 23 bytes, then 0x00. -/
theorem test_sv_dout :
    State.reset.svDout 1 = 0x00 ∧ (after State.reset .syncArrival).svDout 1 = 16 ∧
    (after State.reset .syncArrival).svDout 23 = 0x00 ∧
    (after (after State.reset .syncArrival) (.servoFrameCompletion 0)).svDout 1 = 0x00 := by decide

theorem test_meets_EventsAndIdentityAreRead :
    (tx State.reset).Waits ∧ (4095 : BitVec 16).toNat < 4096 ∧ 4096 ≤ (4096 : BitVec 16).toNat :=
  ⟨test_waits.1, by decide, by decide⟩

theorem test_meets_ResetsReturnEveryBlock : (tx referenced).Waits ∧ (tx referenced).params ≠ params :=
  ⟨⟨rfl, rfl⟩, by decide⟩

/-- A part in use: parameters changed, a table, an axis REFERENCED. -/
def used : State := { tx (withTable table referenced) with params := params }

theorem test_meets_LawsHoldAtReset :
    used.Waits ∧ ParamLaw used.params ∧ TableLaw used.matcher.table ∧
    (∀ j c, used.params.trackerCh = some c → weighted used.params j c = false) ∧
    exec .restart used = .next (after used .restart) :=
  ⟨⟨rfl, rfl⟩, test_param_law, test_table_law.1, by decide, rfl⟩

/-- The part in use, with a SAMPLE_SET_ARRIVAL waiting. -/
def running : State := { used with pending := [.sampleSetArrival 0 false], samplePort := [0, 0, 0, 0, 0, 0, 0] }

/-- A state after its next step. -/
def stepped (s : State) : State :=
  match step s with
  | .next t => t
  | .fault _ => s
  | .refused _ => s

theorem test_running_steps : step running = .next (stepped running) := rfl

theorem test_meets_StepsKeepTheChannelLaw : ChannelLaw running ∧ step running = .next (stepped running) :=
  ⟨by unfold ChannelLaw; decide, test_running_steps⟩

theorem test_meets_StepsKeepTheRefractivityLaw : RefractivityLaw running ∧ step running = .next (stepped running) := by
  refine ⟨⟨?_, ?_, ?_, ?_, ?_, ?_, ?_, ?_, ?_⟩, test_running_steps⟩ <;> try (unfold IsRefractivity; decide)
  all_goals simp [running, used, tx, withTable, referenced, withAxis, withChannel, State.reset, State.afterReset,
    Refractivity.reset, Params.default, Params.refrConfig]

theorem test_meets_StepsKeepTheAxisLaws :
    DatumLaw running ∧ AxisLaw running ∧ step running = .next (stepped running) :=
  ⟨by unfold DatumLaw; decide, by unfold AxisLaw; decide, test_running_steps⟩

/-- A part in use with records in a ring, captures in flight, and CAPTURE NOW waiting. -/
def storing : State :=
  { withCaptures [capture 2 (.strobe .servo) [], capture 3 (.strobe .command) []] (withMain [record 0, record 1] (tx referenced)) with
    capture := { nextSeq := 4, inFlight := [capture 2 (.strobe .servo) [], capture 3 (.strobe .command) []] }
    pending := [.captureNow] }

/-- The sequence law with records and captures, and a step that accepts one more. -/
theorem test_meets_SequenceLaw :
    AwaitedGateLaw storing ∧ SequenceLaw storing ∧ step storing = .next (stepped storing) ∧
    storing.capture.nextSeq.toNat ≤ (stepped storing).capture.nextSeq.toNat := by
  have hm : storing.main.records = [record 0, record 1] := rfl
  have he : storing.exc.records = [] := rfl
  have hc : storing.capture.inFlight = [capture 2 (.strobe .servo) [], capture 3 (.strobe .command) []] := rfl
  have hg : storing.motion.gateNumber = 0 := rfl
  have hn : storing.capture.nextSeq = 4 := rfl
  have hd : storing.due.capture = none := rfl
  refine ⟨⟨?_, ?_⟩, ⟨?_, ?_, ?_, ?_, ?_⟩, rfl, by decide⟩
  · simp [hd]
  · simp [hc, hg, capture]
  · simp [hm, record]
  · simp [he]
  · simp [hc, capture]
  · simp [hm, he, hc, hn, record, capture]
  · simp [hc, hn, capture]

theorem test_meets_StepsKeepTheStoreAndTableLaws :
    StoreLaw running ∧ AwaitedGateLaw running ∧ TableLaw running.matcher.table ∧
    step running = .next (stepped running) := by
  refine ⟨by unfold StoreLaw; decide, ⟨?_, ?_⟩, test_table_law.1, test_running_steps⟩
  · intro r h
    have hn : running.due.capture = none := rfl
    simp [hn] at h
  · intro q h
    have hn : running.capture.inFlight = [] := rfl
    simp [hn] at h

theorem test_meets_StepsKeepParametersHoldAndCounters :
    ParamLaw running.params ∧ HoldLaw running ∧ CounterLaw running ∧ step running = .next (stepped running) :=
  ⟨test_param_law, by unfold HoldLaw; decide, by unfold CounterLaw; decide, test_running_steps⟩

theorem test_meets_OpenScansKeepArithmeticAndTable :
    (withScan .active .forward referenced).scanIsOpen = true ∧ (∀ h, Instr.syncArrival ≠ .deviceReset h) ∧
    exec .syncArrival (withScan .active .forward referenced) =
      .next (after (withScan .active .forward referenced) .syncArrival) ∧
    entersArithmetic .lambda = true :=
  ⟨by decide, by simp, rfl, rfl⟩

end Sys2Proof.Machine.Test
end

section
/-! PROOFS. The amplitude of a corrected pair and its window (R8). -/

namespace Sys2Proof.Machine

/-! ## The integer square root -/

/-- The search below bit `k` keeps its bounds: from a root `r` with `r² ≤ n < (r + 2^k)²` it finds the root of `n`. -/
theorem isqrtBits_eq_sqrt (n k r : Nat) (hlow : r * r ≤ n) (hhigh : n < (r + 2 ^ k) * (r + 2 ^ k)) :
    isqrtBits n k r = Nat.sqrt n := by
  induction k generalizing r with
  | zero =>
    rw [pow_zero] at hhigh
    exact Nat.eq_sqrt.mpr ⟨hlow, hhigh⟩
  | succ k ih =>
    rw [isqrtBits]
    split
    next hset =>
      refine ih _ hset ?_
      have hsum : r + 2 ^ k + 2 ^ k = r + 2 ^ (k + 1) := by ring
      rwa [hsum]
    next hclear => exact ih r hlow (Nat.not_le.mp hclear)

/-- The search starts high enough: `n` has at most twice as many bits as the root searched for. -/
theorem isqrt_eq_sqrt (n : Nat) : isqrt n = Nat.sqrt n := by
  refine isqrtBits_eq_sqrt n _ 0 (Nat.zero_le n) ?_
  calc n < 2 ^ (n.log2 + 1) := Nat.lt_log2_self
    _ ≤ 2 ^ ((n.log2 / 2 + 1) + (n.log2 / 2 + 1)) := Nat.pow_le_pow_right (by decide) (by omega)
    _ = (0 + 2 ^ (n.log2 / 2 + 1)) * (0 + 2 ^ (n.log2 / 2 + 1)) := by rw [pow_add, Nat.zero_add]

/-! ## The amplitude -/

/-- The sum of squares of a pair, as the natural number whose root the part takes. -/
theorem sumOfSquares_toNat (s' c' : Int) : ((s' * s' + c' * c').toNat : Int) = s' * s' + c' * c' :=
  Int.toNat_of_nonneg (add_nonneg (mul_self_nonneg s') (mul_self_nonneg c'))

theorem amplitude_sq_le (s' c' : Int) : (amplitude s' c' : Int) * amplitude s' c' ≤ s' * s' + c' * c' := by
  rw [← sumOfSquares_toNat, amplitude, isqrt_eq_sqrt]
  exact_mod_cast Nat.sqrt_le _

theorem lt_amplitude_succ_sq (s' c' : Int) :
    s' * s' + c' * c' < ((amplitude s' c' : Int) + 1) * (amplitude s' c' + 1) := by
  rw [← sumOfSquares_toNat, amplitude, isqrt_eq_sqrt]
  exact_mod_cast Nat.lt_succ_sqrt _

theorem amplitude_zero : amplitude 0 0 = 0 := by decide

/-! ## The amplitude window -/

/-- The amplitude of a good sample is not below the window (R10). -/
theorem ampMin_le_of_good {p : ChannelParams} {s c : Int} {φ : Nat} (h : classify p s c = .good φ) :
    p.ampMin ≤ amplitude (correctedSine p s) (correctedCosine p s c) := by
  simp only [classify] at h
  split at h
  next => cases h
  next =>
    split at h
    next => cases h
    next hmin => exact not_lt.mp hmin

/-- Lawful parameters have AMP_MIN at least 64 and AMP_MAX at most 32767 (R6, R181). -/
theorem ParamLaw.window_bounds {p : Params} (h : ParamLaw p) (c : Fin 4) :
    64 ≤ (p.channel.get c).ampMin ∧ (p.channel.get c).ampMax ≤ 32767 := by
  obtain ⟨hrange, -⟩ := h
  exact ⟨(hrange (.ampMin c)).1, (hrange (.ampMax c)).2⟩

/-- Settles O9: the bit search finds the integer square root, and the parameter law bounds the window. -/
theorem amplitudeIsTheIntegerRoot : Obligations.AmplitudeIsTheIntegerRoot := by
  refine ⟨fun s' c' => ⟨amplitude_sq_le s' c', lt_amplitude_succ_sq s' c'⟩, amplitude_zero, ?_, ?_⟩
  · intro p c s k φ hlaw hs hc hgood
    have hmin : 64 ≤ (p.channel.get c).ampMin := (hlaw.window_bounds c).1
    have hin := ampMin_le_of_good hgood
    rw [hs, hc, amplitude_zero] at hin
    omega
  · intro p c s' c' hlaw hbig
    have hmax : (p.channel.get c).ampMax ≤ 32767 := (hlaw.window_bounds c).2
    omega

end Sys2Proof.Machine
end

section
/-! PROOFS. Writes of the ordered pairs: AMP_MIN with AMP_MAX (R6), and the water marks (R163). -/

namespace Sys2Proof

theorem Four.set_set {α : Type} (f : Four α) (i : Fin 4) (x y : α) : (f.set i x).set i y = f.set i y := by
  fin_cases i <;> rfl

namespace Machine

/-! ## The parameters of one channel -/

@[simp] theorem Params.updateChannel_same (p : Params) (c : Fin 4) (f : ChannelParams → ChannelParams) :
    (p.updateChannel c f).channel.get c = f (p.channel.get c) := Four.get_set_same _ _ _

theorem Params.updateChannel_updateChannel (p : Params) (c : Fin 4) (f g : ChannelParams → ChannelParams) :
    (p.updateChannel c f).updateChannel c g = p.updateChannel c fun r => g (f r) := by
  simp [Params.updateChannel, Four.set_set]

/-! ## A write that passes its tests -/

/-- A write of a numeric parameter outside the position arithmetic, where no designation conflicts, is taken in every scan
state: the store becomes what `storeParam` gives, and the answer carries the value stored (R181). -/
theorem setParam_stored {q : Param} {value : BitVec 32} {s : State} {lo hi : Int} {p : Params} {adjusted : Bool}
    (hw : s.Waits) (hkind : paramKind q = .numeric lo hi) (hfree : entersArithmetic q = false)
    (hconflict : paramConflict s.params q (paramField q value) = false)
    (hstore : storeParam s.params q (paramField q value) = (p, adjusted)) :
    takeCommand .setParam (writeParam q value) s =
      .next ((applyStore q p s).answer 0x05 6 ((if adjusted then 0x01 else 0x00) :: be 4 (getParam p q))) := by
  have hvalid : validCode q (paramField q value) = true := by simp [validCode, hkind]
  have hwrite : writeParam q value s =
      { state := applyStore q p s, status := if adjusted then .clamped else .ok, data := be 4 (getParam p q) } := by
    simp [writeParam, hvalid, hfree, hconflict, hstore, paramBytes]
  have htake := (takeCommand_answer hw .setParam (writeParam q value) (by rw [hwrite]; exact applyStore_mp q p s)).1
  rw [htake, hwrite]
  cases adjusted <;> rfl

/-! ## The amplitude window -/

/-- AMP_MIN as stored for a written value: clamped to its range, and kept below AMP_MAX (R6). -/
def storedAmpMin (q : ChannelParams) (v : Int) : Int :=
  if clampTo 64 32767 v < q.ampMax then clampTo 64 32767 v else q.ampMax - 1

/-- AMP_MAX as stored for a written value: clamped to its range, and raised above the lowest AMP_MIN (R6). -/
def storedAmpMax (v : Int) : Int := if clampTo 64 32767 v = 64 then 65 else clampTo 64 32767 v

/-- AMP_MIN as a write of AMP_MAX leaves it: lowered where it is not below the new AMP_MAX (R6). -/
def loweredAmpMin (q : ChannelParams) (hi : Int) : Int := if q.ampMin < hi then q.ampMin else hi - 1

theorem storedAmpMin_lt (q : ChannelParams) (v : Int) : storedAmpMin q v < q.ampMax := by
  unfold storedAmpMin; split <;> omega

theorem loweredAmpMin_lt (q : ChannelParams) (hi : Int) : loweredAmpMin q hi < hi := by
  unfold loweredAmpMin; split <;> omega

theorem storeParam_ampMin (p : Params) (c : Fin 4) (v : Int) :
    storeParam p (.ampMin c) v =
      (p.updateChannel c fun r => { r with ampMin := storedAmpMin (p.channel.get c) v },
        storedAmpMin (p.channel.get c) v != v) := rfl

theorem storeParam_ampMax (p : Params) (c : Fin 4) (v : Int) :
    storeParam p (.ampMax c) v =
      (p.updateChannel c fun r =>
          { r with ampMin := loweredAmpMin (p.channel.get c) (storedAmpMax v), ampMax := storedAmpMax v },
        decide (¬ (storedAmpMax v = v ∧ loweredAmpMin (p.channel.get c) (storedAmpMax v) = (p.channel.get c).ampMin))) := by
  change (if (p.channel.get c).ampMin < storedAmpMax v then
      (p.updateChannel c fun r => { r with ampMax := storedAmpMax v }, storedAmpMax v != v)
    else ((p.updateChannel c fun r => { r with ampMax := storedAmpMax v }).updateChannel c
      fun r => { r with ampMin := storedAmpMax v - 1 }, true)) = _
  unfold loweredAmpMin
  split
  next hbelow => simp [Params.updateChannel, bne, beq_eq_decide]
  next hnot =>
    have hlower : storedAmpMax v - 1 ≠ (p.channel.get c).ampMin := by omega
    simp [Params.updateChannel_updateChannel, hlower]

/-- A write of AMP_MIN (R6). -/
theorem exec_setParamAmpMin {s : State} (hw : s.Waits) (channel : BitVec 2) (value : BitVec 32) {lo : Int}
    (hlo : lo = storedAmpMin (s.params.channel.get (indexOf channel)) value.toInt) :
    exec (.setParamAmpMin channel value) s =
      .next (({ s with params := s.params.updateChannel (indexOf channel) fun r => { r with ampMin := lo } }).answer
        0x05 6 ((if lo = value.toInt then 0x00 else 0x01) :: be 4 lo)) := by
  subst hlo
  refine (setParam_stored hw rfl rfl rfl (storeParam_ampMin s.params (indexOf channel) value.toInt)).trans ?_
  simp [applyStore, getParam, ite_not]

/-- A write of AMP_MAX (R6). -/
theorem exec_setParamAmpMax {s : State} (hw : s.Waits) (channel : BitVec 2) (value : BitVec 32) {hi lo : Int}
    (hhi : hi = storedAmpMax value.toInt) (hlo : lo = loweredAmpMin (s.params.channel.get (indexOf channel)) hi) :
    exec (.setParamAmpMax channel value) s =
      .next (({ s with
        params := s.params.updateChannel (indexOf channel) fun r => { r with ampMin := lo, ampMax := hi } }).answer
        0x05 6 ((if hi = value.toInt ∧ lo = (s.params.channel.get (indexOf channel)).ampMin then 0x00 else 0x01)
          :: be 4 hi)) := by
  subst hhi hlo
  refine (setParam_stored hw rfl rfl rfl (storeParam_ampMax s.params (indexOf channel) value.toInt)).trans ?_
  simp only [applyStore, getParam, Params.updateChannel_same, decide_eq_true_eq, ite_not]

/-! ## The water marks -/

theorem storeParam_highWater (p : Params) (v : Int) {w : Nat} (hw : (w : Int) = clampTo (p.lowWater + 1) 512 v) :
    storeParam p .highWater v = ({ p with highWater := w }, (w : Int) != v) := by
  simp only [storeParam, putParam, ← hw, Int.toNat_natCast]

theorem storeParam_lowWater (p : Params) (v : Int) {w : Nat} (hw : (w : Int) = clampTo 0 (p.highWater - 1) v) :
    storeParam p .lowWater v = ({ p with lowWater := w }, (w : Int) != v) := by
  simp only [storeParam, putParam, ← hw, Int.toNat_natCast]

/-- A write of HIGH_WATER, with the comparison it brings about (R163). -/
theorem exec_setParamHighWater {s : State} (hs : s.Waits) (value : BitVec 32) {w : Nat}
    (hw : (w : Int) = clampTo (s.params.lowWater + 1) 512 value.toInt) :
    exec (.setParamHighWater value) s =
      .next ((holdCompare { s with params := { s.params with highWater := w } }).answer 0x05 6
        ((if (w : Int) = value.toInt then 0x00 else 0x01) :: be 4 w)) := by
  refine (setParam_stored hs rfl rfl rfl (storeParam_highWater s.params value.toInt hw)).trans ?_
  simp [applyStore, getParam, ite_not]

/-- A write of LOW_WATER, with the comparison it brings about (R163). -/
theorem exec_setParamLowWater {s : State} (hs : s.Waits) (value : BitVec 32) {w : Nat}
    (hw : (w : Int) = clampTo 0 (s.params.highWater - 1) value.toInt) :
    exec (.setParamLowWater value) s =
      .next ((holdCompare { s with params := { s.params with lowWater := w } }).answer 0x05 6
        ((if (w : Int) = value.toInt then 0x00 else 0x01) :: be 4 w)) := by
  refine (setParam_stored hs rfl rfl rfl (storeParam_lowWater s.params value.toInt hw)).trans ?_
  simp [applyStore, getParam, ite_not]

/-- Settles O33: every write of an ordered pair is taken, and what it stores is read off `storeParam`. -/
theorem orderedPairsStayInOrder : Obligations.OrderedPairsStayInOrder := by
  refine ⟨by decide, ?_, ?_⟩
  · rintro s channel value c q hw rfl rfl
    refine ⟨fun lo hlo => ⟨?_, exec_setParamAmpMin hw channel value hlo⟩,
      fun hi lo hhi hlo => ⟨?_, exec_setParamAmpMax hw channel value hhi hlo⟩⟩
    · exact hlo ▸ storedAmpMin_lt _ _
    · exact hlo ▸ loweredAmpMin_lt _ _
  · intro s value hs _ _
    exact ⟨fun w hw => exec_setParamHighWater hs value hw, fun w hw => exec_setParamLowWater hs value hw⟩

end Machine

end Sys2Proof
end

section
/-! PROOFS. The commit and the drop of a record at either ring (R167, R168). -/

namespace Sys2Proof.Machine

/-! ## A sequence number held by a ring -/

theorem seqHeld_iff {s : State} {seq : Word32} :
    s.seqHeld seq = true ↔ ∃ q, (q ∈ s.main.records ∨ q ∈ s.exc.records) ∧ q.seq = seq := by
  simp only [State.seqHeld, Bool.or_eq_true, List.any_eq_true, beq_iff_eq, or_and_right, exists_or]

theorem not_seqHeld_iff {s : State} {seq : Word32} :
    s.seqHeld seq = false ↔ ∀ q, q ∈ s.main.records ∨ q ∈ s.exc.records → q.seq ≠ seq := by
  simp only [← Bool.not_eq_true, seqHeld_iff, not_exists, not_and, ne_eq]

/-! ## A record handed to a ring -/

/-- A full ring or a held number each keep a record out of a ring (R168). -/
theorem not_room_and_fresh {fill capacity : Nat} {held : Bool} (refused : capacity ≤ fill ∨ held = true) :
    ¬ (fill < capacity ∧ held = false) := by
  rintro ⟨room, fresh⟩
  rcases refused with full | taken
  · exact absurd room (Nat.not_lt.mpr full)
  · exact Bool.false_ne_true (fresh.symm.trans taken)

theorem handToMain_of_room {r : Record} {s : State} (room : s.main.records.length < 512)
    (fresh : s.seqHeld r.seq = false) :
    handToMain r s = holdCompare (raise .mainReady { s with main := s.main.commit r }) :=
  if_pos ⟨room, fresh⟩

theorem handToMain_of_refused {r : Record} {s : State}
    (refused : 512 ≤ s.main.records.length ∨ s.seqHeld r.seq = true) :
    handToMain r s = raise .recordsLost { s with main := s.main.drop } :=
  if_neg (not_room_and_fresh refused)

theorem handToException_of_room {r : Record} {s : State} (room : s.exc.records.length < 128)
    (fresh : s.seqHeld r.seq = false) :
    handToException r s = raise .excReady { s with exc := s.exc.commit r } :=
  if_pos ⟨room, fresh⟩

theorem handToException_of_refused {r : Record} {s : State}
    (refused : 128 ≤ s.exc.records.length ∨ s.seqHeld r.seq = true) :
    handToException r s = raise .recordsLost { s with exc := s.exc.drop } :=
  if_neg (not_room_and_fresh refused)

/-- Settles O43: each ring takes a record exactly when it has room and `seqHeld` finds its number in neither ring. -/
theorem recordsAreCommittedOrDropped : Obligations.RecordsAreCommittedOrDropped := by
  intro s r
  refine ⟨?mainCommit, ?mainDrop, ?excCommit, ?excDrop⟩
  case mainCommit => exact fun room fresh => handToMain_of_room room (not_seqHeld_iff.mpr fresh)
  case mainDrop => exact fun refused => handToMain_of_refused (refused.imp_right seqHeld_iff.mpr)
  case excCommit => exact fun room fresh => handToException_of_room room (not_seqHeld_iff.mpr fresh)
  case excDrop => exact fun refused => handToException_of_refused (refused.imp_right seqHeld_iff.mpr)

end Sys2Proof.Machine
end

section
/-! PROOFS. What a step can do, said once: every row of the table is a short chain of moves of the blocks, or one edit of
the parameter store or the table, or a reset. The laws of the part are derived from this list. -/

namespace Sys2Proof.Machine

/-! ## Moves and edits -/

/-- One operation of a block that leaves the parameters, and what the table says of its graduations, alone. -/
inductive Move : State → State → Prop where
  /-- the ports, the Event Unit and the queue, of which no law speaks -/
  | quiet {s} (pending : List Instr) (resetLow : Bool) (port : List (BitVec 16)) (events : Events) (mp : MeasurementLink)
      (sv : ServoLink) (env : EnvironmentLink) :
      Move s { s with
        pending := pending, resetLow := resetLow, samplePort := port, events := events, mp := mp, sv := sv, env := env }
  | gateEndRefr {s} : Move s (takeGateEndRefr s)
  | captureReport {s} : Move s (takeCaptureReport s)
  | scanReport {s} : Move s (takeScanReport s)
  | datumReport {s} : Move s (takeDatumReport s)
  | holdReport {s} : Move s (takeHoldReport s)
  | testReport {s} : Move s (takeTestReport s)
  | refrArrive {s} : Move s (refrArrive s)
  | frontEnd {s} (values : List (BitVec 16)) : Move s (frontEnd values s)
  | lockArrive {s} (high : Bool) : Move s (lockArrive high s)
  /-- the Motion Monitor counts an arrival only after every block has taken the last gate end -/
  | countArrival {s} (taken : s.due = .nothing) : Move s (countArrival s)
  | accept {s} (kind : CaptureKind) (latch : Latch) : Move s (acceptCapture kind latch s)
  | mark {s} (input : RefInput) (edge : Edge) : Move s (takeMark input edge s)
  | request {s} (j : Fin 4) (owner : Owner) (source : DatumSource) (edge : Edge) (preset : Int) (timeout : Nat) :
      Move s (requestDatum s j owner source edge preset timeout).1
  | cancel {s} (j : Fin 4) (owner : Owner) : Move s (cancelDatum s j owner).1
  | deliverHold {s} (flag : Bool) : Move s { s with hold := deliverHold flag s.hold }
  | readMain {s} : Move s { s with main := s.main.read.1 }
  | readExc {s} : Move s { s with exc := s.exc.read.1 }
  | endMainRead {s} (complete : Bool) : Move s (endMainRead complete s)
  | endExcRead {s} (complete : Bool) : Move s (endExceptionRead complete s)
  | enable {s} (c : Fin 4) : Move s (setChannels (s.channels.set c (s.channels.get c).enable) s)
  | disable {s} (c : Fin 4) : Move s (setChannels (s.channels.set c (s.channels.get c).disable) s)
  | restartChannel {s} (c : Fin 4) : Move s (setChannels (s.channels.set c (s.channels.get c).restart) s)
  | testStart {s} (set : Byte) (low : set.toNat ≠ 0) (high : set.toNat ≤ 15) :
      Move s (setChannels (startChannels set s.channels)
        { s with gen := if s.gen.running then s.gen else .start s.params })
  | testStop {s} : Move s (setChannels (stopChannels s.channels) { s with gen := { s.gen with running := false } })
  | openScan {s} (d : Descriptor) (free : scanRefusal d s = none) : Move s (openScanWith d s)
  | endScan {s} (cause : EndCause) : Move s (endScan cause s)
  | clearScan {s} (aborted : s.scan.state = .aborted) : Move s { s with scan := { s.scan with state := .idle } }
  | envWrite {s} (w : WriteClass) : Move s { s with refr := applyWrite w s.refr }

/-- A change of the parameter store or of the table's graduations, or RESTART. -/
inductive Edit : State → State → Prop where
  | write {s} (q : Param) (value : BitVec 32) (valid : validCode q (paramField q value) = true)
      (closed : (entersArithmetic q && s.scanIsOpen) = false)
      (agree : paramConflict s.params q (paramField q value) = false) :
      Edit s (applyStore q (storeParam s.params q (paramField q value)).1 s)
  | insert {s} (e : Entry) (idle : s.scanIsOpen = false) (room : s.matcher.table.length < Config.tableCapacity)
      (ranged : e.InRange) (fresh : findEntry (fun h => h.index == e.index) s.matcher.table = none)
      (apart : findEntry (fun h => e.meets h) s.matcher.table = none) :
      Edit s (editTable (insertEntry e s.matcher.table) s)
  | remove {s} (keep : Entry → Bool) (idle : s.scanIsOpen = false) : Edit s (editTable (s.matcher.table.filter keep) s)
  | restart {s} : Edit s (restartPart s)

/-- A chain of at most `n` moves. -/
inductive Moves : Nat → State → State → Prop where
  | stay {n s} : Moves n s s
  | next {n s m t} (first : Move s m) (rest : Moves n m t) : Moves (n + 1) s t

namespace Moves

theorem one {s t : State} (h : Move s t) : Moves 1 s t := .next h .stay

theorem mono {n k : Nat} {s t : State} (h : Moves n s t) (hle : n ≤ k) : Moves k s t := by
  induction h generalizing k with
  | stay => exact .stay
  | next first rest ih =>
    obtain ⟨k, rfl⟩ : ∃ m, k = m + 1 := ⟨k - 1, by omega⟩
    exact .next first (ih (by omega))

theorem trans {n k : Nat} {s m t : State} (h : Moves n s m) (g : Moves k m t) : Moves (n + k) s t := by
  induction h with
  | stay => exact g.mono (by omega)
  | @next n _ _ _ first rest ih => exact (Moves.next first (ih g)).mono (by omega)

/-- What every move keeps, a chain of moves keeps. -/
theorem keeps {P : State → Prop} (move : ∀ {s t}, Move s t → P s → P t) {n : Nat} {s t : State} (h : Moves n s t)
    (hs : P s) : P t := by
  induction h with
  | stay => exact hs
  | next first rest ih => exact ih (move first hs)

end Moves

/-! ## The measurement link, the servo link and the environment link -/

theorem Moves.setMp {s : State} (mp : MeasurementLink) : Moves 1 s { s with mp := mp } :=
  .one (.quiet s.pending s.resetLow s.samplePort s.events mp s.sv s.env)

theorem Moves.setEvents {s : State} (events : Events) : Moves 1 s { s with events := events } :=
  .one (.quiet s.pending s.resetLow s.samplePort events s.mp s.sv s.env)

theorem Moves.setSv {s : State} (sv : ServoLink) : Moves 1 s { s with sv := sv } :=
  .one (.quiet s.pending s.resetLow s.samplePort s.events s.mp sv s.env)

theorem Moves.setEnv {s : State} (env : EnvironmentLink) : Moves 1 s { s with env := env } :=
  .one (.quiet s.pending s.resetLow s.samplePort s.events s.mp s.sv env)

theorem Moves.setPort {s : State} (port : List (BitVec 16)) : Moves 1 s { s with samplePort := port } :=
  .one (.quiet s.pending s.resetLow port s.events s.mp s.sv s.env)

/-! ## Events -/

theorem live_moves {n : Nat} {f : State → State} (h : ∀ s, Moves n s (f s)) {s t : State} (he : live s f = .next t) :
    Moves n s t := by
  unfold live at he
  split at he
  · cases he; exact .stay
  · cases he; exact h s

theorem takeAll_moves (s : State) : Moves 6 s (takeAll s) :=
  .next .gateEndRefr (.next .captureReport (.next .scanReport (.next .datumReport (.next .holdReport (.one .testReport)))))

theorem arrive_moves (values : List (BitVec 16)) (high : Bool) (s : State) : Moves 10 s (arrive values high s) :=
  (takeAll_moves s).trans
    (.next .refrArrive (.next (.frontEnd values) (.next (.lockArrive high) (.one (.countArrival (by simp))))))

theorem deliver_moves (value : BitVec 16) (high : Bool) (s : State) : Moves 11 s (deliver value high s) := by
  unfold deliver
  split
  · exact (Moves.setPort []).trans (arrive_moves _ _ _)
  · exact (Moves.setPort _).mono (by decide)

theorem deliverWhole_moves (value : BitVec 16) (high : Bool) (s : State) : Moves 17 s (deliverWhole value high s) := by
  unfold deliverWhole
  split
  · exact (deliver_moves value high s).trans (takeAll_moves _)
  · exact (deliver_moves value high s).mono (by decide)

theorem takeLineEvent_moves (input : LineInput) (edge : Edge) (s : State) : Moves 1 s (takeLineEvent input edge s) := by
  unfold takeLineEvent
  split
  · exact .stay
  · split
    · exact .one (.accept _ _)
    · split
      · exact .one (.accept _ _)
      · exact .stay

theorem requestDone_moves (result : RequestResult) (s : State) : Moves 1 s (requestDone result s) := .setSv _

theorem takeRequest_moves (s : State) : Moves 2 s (takeRequest s) := by
  unfold takeRequest takeRequestByte
  split
  · exact .stay
  · split
    · exact (requestDone_moves _ s).mono (by decide)
    · exact .next (.request _ _ _ _ _ _) (requestDone_moves _ _)
    · exact .next (.cancel _ _) (requestDone_moves _ _)
    · unfold servoStrobe
      split
      · exact .stay
      · exact .next (.accept _ _) (requestDone_moves _ _)

theorem takeRequestOf_moves (code : Nat) (s : State) : Moves 2 s (takeRequestOf code s) := by
  unfold takeRequestOf
  split
  · exact takeRequest_moves s
  · exact .stay

theorem sync_moves (s : State) : Moves 3 s (sync s) := (takeRequest_moves s).trans (.setSv _)

theorem completeFrame_moves (request : Byte) (s : State) : Moves 2 s (completeFrame request s) := by
  unfold completeFrame
  split
  · exact .stay
  · exact .next (.deliverHold _) (.setSv _)

theorem endWrite_moves (s : State) : Moves 2 s (endWrite s) := by
  unfold endWrite
  split
  · exact .stay
  · exact .next (.envWrite _) (.setEnv _)

theorem endWriteIf_moves (kind : WriteClass → Bool) (s : State) : Moves 2 s (endWriteIf kind s) := by
  unfold endWriteIf
  split
  · exact endWrite_moves s
  · exact .stay

theorem takeStart_moves {taken : State → State} (h : ∀ s, Moves 1 s (taken s)) (address : BitVec 7) (addrPin : Bool)
    (s : State) : Moves 3 s (takeStart address addrPin taken s) := by
  unfold takeStart
  simp only
  split
  · exact (endWrite_moves s).trans (h _)
  · exact (endWrite_moves s).trans (.setEnv _)

theorem beginTransaction_moves (s : State) : Moves 1 s (beginTransaction s) := by
  unfold beginTransaction
  split
  · exact .stay
  · exact .setMp _

theorem endTransaction_moves (clocked : Nat) (s : State) : Moves 3 s (endTransaction clocked s) := by
  unfold endTransaction
  simp only
  split
  · exact (Moves.setMp _).mono (by decide)
  · exact (Moves.setMp _).trans (.next (.endMainRead _) (.one (.endExcRead _)))

/-! ## Commands -/

/-- The outcome of a step: a chain of moves, or an edit whose command is then answered. -/
def StepOutcome (s t : State) : Prop := Moves 20 s t ∨ ∃ u mp, Edit s u ∧ t = { u with mp := mp }

theorem StepOutcome.moves {n : Nat} {s t : State} (h : Moves n s t) (hle : n ≤ 20 := by decide) : StepOutcome s t :=
  .inl (h.mono hle)

/-- A command body does nothing but moves of its own, or an edit. -/
def BodyOutcome (s t : State) : Prop := Moves 1 s t ∨ Edit s t

theorem takeCommand_outcome {c : Command} {body : State → Reply} {s t : State} (he : takeCommand c body s = .next t)
    (h : ∀ s, BodyOutcome s (body s).state) : StepOutcome s t := by
  by_cases hw : s.Waits
  · rw [takeCommand_of_waits hw] at he
    cases he
    rcases h s with moves | edit
    · exact .moves (moves.trans (.setMp _))
    · exact .inr ⟨_, _, edit, rfl⟩
  · rw [takeCommand_of_not_waits hw] at he
    cases he
    exact .moves (n := 0) .stay

theorem BodyOutcome.stay (s : State) : BodyOutcome s s := .inl .stay

theorem writeParam_outcome (q : Param) (value : BitVec 32) (s : State) :
    BodyOutcome s (writeParam q value s).state := by
  unfold writeParam
  simp only
  split
  · exact .stay s
  · rename_i hvalid
    split
    · exact .stay s
    · rename_i hclosed
      split
      · exact .stay s
      · rename_i hagree
        exact .inr (.write q value (by simpa using hvalid) (by simpa using hclosed) (by simpa using hagree))

theorem channelCommand_outcome {f : Channel → Channel}
    (h : ∀ s c, Move s (setChannels (s.channels.set c (f (s.channels.get c))) s)) (channel : Byte) (s : State) :
    BodyOutcome s (channelCommand channel f s).state := by
  unfold channelCommand
  split
  · exact .stay s
  · exact .inl (.one (h s _))

theorem insertInto_outcome {e : Entry} (ranged : e.InRange) (s : State) : BodyOutcome s (insertInto e s).state := by
  unfold insertInto
  split
  · exact .stay s
  · rename_i idle
    split
    · exact .stay s
    · rename_i room
      split
      · exact .stay s
      · rename_i fresh
        split
        · exact .stay s
        · rename_i apart
          exact .inr (.insert e (by simpa using idle) (Nat.not_le.mp room) ranged fresh apart)

theorem tableInsert_outcome {index : BitVec 16} {nominal : BitVec 64} {halfWindow : BitVec 32} {retained : Byte}
    {s t : State} (h : execTableInsert index nominal halfWindow retained s = .next t) : StepOutcome s t := by
  refine takeCommand_outcome h fun s => ?_
  split
  · exact .stay s
  · split
    · rename_i keep _ hargs
      obtain ⟨⟨hnominal, hlow⟩, hhigh⟩ : (inLengthRange nominal.toInt = true ∧ 1 ≤ halfWindow.toNat) ∧
          (halfWindow.toNat : Int) ≤ 1000000000 := by simpa [Config.halfWindowLimit] using hargs
      exact insertInto_outcome
        ⟨Nat.le_of_lt_succ index.isLt, hnominal, Int.ofNat_le.mpr hlow, hhigh, Nat.zero_le _⟩ s
    · exact .stay s

theorem tableDelete_outcome {index : BitVec 16} {force : Byte} {s t : State}
    (h : execTableDelete index force s = .next t) : StepOutcome s t := by
  refine takeCommand_outcome h fun s => ?_
  split
  · exact .stay s
  · split
    · exact .stay s
    · rename_i idle
      split
      · exact .stay s
      · split
        · exact .stay s
        · exact .inr (.remove _ (by simpa using idle))

theorem tableFlush_outcome {option : Byte} {s t : State} (h : execTableFlush option s = .next t) : StepOutcome s t := by
  refine takeCommand_outcome h fun s => ?_
  split
  · exact .stay s
  · split
    · exact .stay s
    · rename_i idle
      simp only [Reply.ok]
      split
      · exact .stay s
      · exact .inr (.remove _ (by simpa using idle))

theorem scanOpen_outcome {id axis line direction : Byte} {start stop : BitVec 64} {s t : State}
    (h : execScanOpen id axis line direction start stop s = .next t) : StepOutcome s t := by
  refine takeCommand_outcome h fun s => ?_
  split
  · exact .stay s
  · split
    · exact .stay s
    · rename_i free
      exact .inl (.one (.openScan _ free))

theorem datumArm_outcome {axis source edge : Byte} {preset : BitVec 64} {timeout : BitVec 16} {s t : State}
    (h : execDatumArm axis source edge preset timeout s = .next t) : StepOutcome s t := by
  refine takeCommand_outcome h fun s => ?_
  split
  · split
    · exact .inl (.one (.request _ _ _ _ _ _))
    · exact .stay s
  · exact .stay s

theorem unknownCommand_outcome {code : Byte} {s t : State} (h : execUnknownCommand code s = .next t) :
    StepOutcome s t := by
  refine .moves (live_moves (n := 1) (fun s => ?_) h)
  simp only
  split
  · exact .stay
  · split
    · exact .stay
    · exact .setMp _

/-- What the rows of the table do; DEVICE_RESET apart. -/
theorem exec_outcome {i : Instr} {s t : State} (hi : ∀ held, i ≠ .deviceReset held) (h : exec i s = .next t) :
    StepOutcome s t := by
  cases i
  case gateEnd value high => exact .moves (live_moves (deliverWhole_moves value high) h)
  case sampleSetArrival value high => exact .moves (live_moves (deliver_moves value high) h)
  case testPeriodEnd value high => exact .moves (live_moves (deliver_moves value high) h)
  case lossPersistReached value high => exact .moves (live_moves (deliver_moves value high) h)
  case settleComplete value high => exact .moves (live_moves (deliver_moves value high) h)
  case lockSettleComplete value high => exact .moves (live_moves (deliver_moves value high) h)
  case envStale value high => exact .moves (live_moves (deliver_moves value high) h)
  case gateLengthAdopted value high => exact .moves (live_moves (deliver_moves value high) h)
  case sampleValueDelivered value high => exact .moves (live_moves (deliver_moves value high) h)
  case configurationAdopted => exact .moves (live_moves (fun _ => .one .gateEndRefr) h)
  case heldUpdatePromoted => exact .moves (live_moves (fun _ => .one .gateEndRefr) h)
  case envUpdateApplied => exact .moves (live_moves (fun _ => .one .gateEndRefr) h)
  case captureFinalization => exact .moves (live_moves (fun _ => .one .captureReport) h)
  case scanActive => exact .moves (live_moves (fun _ => .one .scanReport) h)
  case stopReached => exact .moves (live_moves (fun _ => .one .scanReport) h)
  case immediateDatum => exact .moves (live_moves (fun _ => .one .datumReport) h)
  case datumTimeout => exact .moves (live_moves (fun _ => .one .datumReport) h)
  case holdUnseen => exact .moves (live_moves (fun _ => .one .holdReport) h)
  case testAdvanced => exact .moves (live_moves (fun _ => .one .testReport) h)
  case lineEvent input edge => exact .moves (live_moves (takeLineEvent_moves input edge) h)
  case referenceMarkEvent input edge => exact .moves (live_moves (fun _ => .one (.mark input edge)) h)
  case syncArrival => exact .moves (live_moves sync_moves h)
  case servoFrameCompletion request => exact .moves (live_moves (completeFrame_moves request) h)
  case servoRequestNone => exact .moves (live_moves (takeRequestOf_moves 0) h)
  case servoDatumArm => exact .moves (live_moves (takeRequestOf_moves 1) h)
  case servoDatumCancel => exact .moves (live_moves (takeRequestOf_moves 2) h)
  case servoCapture => exact .moves (live_moves (takeRequestOf_moves 3) h)
  case transactionBegin =>
    cases h
    split
    · exact .moves (.setMp _)
    · exact .moves (beginTransaction_moves s)
  case transactionEnd clocked =>
    cases h
    split
    · exact .moves (.setMp _)
    · exact .moves (endTransaction_moves clocked s)
  case envUpdate => exact .moves (live_moves (endWriteIf_moves _) h)
  case malformedUpdate => exact .moves (live_moves (endWriteIf_moves _) h)
  case pointerSet => exact .moves (live_moves (endWriteIf_moves _) h)
  case statusBlockRead address addrPin =>
    exact .moves (live_moves (takeStart_moves (fun _ => .setEnv _) address addrPin) h)
  case envWriteBegin address addrPin bytes =>
    exact .moves (live_moves (takeStart_moves (fun _ => .setEnv _) address addrPin) h)
  case deviceReset held =>
    exact absurd rfl (hi held)
  case restart => exact takeCommand_outcome (show execRestart s = _ from h) (fun _ => .inr .restart)
  case unknownCommand code => exact unknownCommand_outcome h
  case identify => exact takeCommand_outcome (show execIdentify s = _ from h) .stay
  case readStatus => exact takeCommand_outcome (show execReadStatus s = _ from h) .stay
  case readEvents => exact takeCommand_outcome (show execReadEvents s = _ from h) (fun _ => .inl (.setEvents _))
  case setEventMask mask =>
    refine takeCommand_outcome (show execSetEventMask mask s = _ from h) fun s => ?_
    split
    · exact .inl (.setEvents _)
    · exact .stay s
  case setParam number value =>
    refine takeCommand_outcome (show execSetParam number value s = _ from h) fun s => ?_
    split
    · exact .stay s
    · exact writeParam_outcome _ value s
  case setParamWeight axis channel value => exact takeCommand_outcome (show execSetParamWeight axis channel value s = _ from h) (writeParam_outcome _ value)
  case setParamLambda value => exact takeCommand_outcome (show execSetParamLambda value s = _ from h) (writeParam_outcome _ value)
  case setParamPathK channel value => exact takeCommand_outcome (show execSetParamPathK channel value s = _ from h) (writeParam_outcome _ value)
  case setParamDeadPath channel value => exact takeCommand_outcome (show execSetParamDeadPath channel value s = _ from h) (writeParam_outcome _ value)
  case setParamTrackerCh value => exact takeCommand_outcome (show execSetParamTrackerCh value s = _ from h) (writeParam_outcome _ value)
  case setParamLockOverride value => exact takeCommand_outcome (show execSetParamLockOverride value s = _ from h) (writeParam_outcome _ value)
  case setParamAmpMin channel value => exact takeCommand_outcome (show execSetParamAmpMin channel value s = _ from h) (writeParam_outcome _ value)
  case setParamAmpMax channel value => exact takeCommand_outcome (show execSetParamAmpMax channel value s = _ from h) (writeParam_outcome _ value)
  case setParamHighWater value => exact takeCommand_outcome (show execSetParamHighWater value s = _ from h) (writeParam_outcome _ value)
  case setParamLowWater value => exact takeCommand_outcome (show execSetParamLowWater value s = _ from h) (writeParam_outcome _ value)
  case setParamServoPresetH axis value => exact takeCommand_outcome (show execSetParamServoPresetH axis value s = _ from h) (writeParam_outcome _ value)
  case setParamServoPresetL axis value => exact takeCommand_outcome (show execSetParamServoPresetL axis value s = _ from h) (writeParam_outcome _ value)
  case getParam number =>
    refine takeCommand_outcome (show execGetParam number s = _ from h) fun s => ?_
    split <;> exact .stay s
  case channelEnable channel => exact takeCommand_outcome (show execChannelEnable channel s = _ from h) (channelCommand_outcome (fun _ c => .enable c) channel)
  case channelDisable channel => exact takeCommand_outcome (show execChannelDisable channel s = _ from h) (channelCommand_outcome (fun _ c => .disable c) channel)
  case channelRestart channel =>
    exact takeCommand_outcome (show execChannelRestart channel s = _ from h) (channelCommand_outcome (fun _ c => .restartChannel c) channel)
  case testStart channels =>
    refine takeCommand_outcome (show execTestStart channels s = _ from h) fun s => ?_
    split
    · exact .stay s
    · rename_i hset
      exact .inl (.one (.testStart channels (by omega) (by omega)))
  case testStop => exact takeCommand_outcome (show execTestStop s = _ from h) (fun _ => .inl (.one .testStop))
  case datumArm axis source edge preset timeout => exact datumArm_outcome h
  case datumCancel axis =>
    refine takeCommand_outcome (show execDatumCancel axis s = _ from h) fun s => ?_
    split
    · exact .stay s
    · exact .inl (.one (.cancel _ _))
  case readAxis axis =>
    refine takeCommand_outcome (show execReadAxis axis s = _ from h) fun s => ?_
    split <;> exact .stay s
  case captureNow => exact takeCommand_outcome (show execCaptureNow s = _ from h) (fun _ => .inl (.one (.accept _ _)))
  case tableInsert index nominal halfWindow retained => exact tableInsert_outcome h
  case tableDelete index force => exact tableDelete_outcome h
  case tableFlush option => exact tableFlush_outcome h
  case tableRead mode key =>
    refine takeCommand_outcome (show execTableRead mode key s = _ from h) fun s => ?_
    split
    · exact .stay s
    · split
      · exact .stay s
      · split <;> exact .stay s
  case scanOpen id axis line direction start stop => exact scanOpen_outcome h
  case scanClose =>
    refine takeCommand_outcome (show execScanClose s = _ from h) fun s => ?_
    split
    · exact .inl (.one (.endScan _))
    · exact .stay s
  case scanClear =>
    refine takeCommand_outcome (show execScanClear s = _ from h) fun s => ?_
    split
    · rename_i aborted
      exact .inl (.one (.clearScan aborted))
    · exact .stay s
  case readRecord => exact takeCommand_outcome (show execReadRecord s = _ from h) (fun _ => .inl (.one .readMain))
  case readException => exact takeCommand_outcome (show execReadException s = _ from h) (fun _ => .inl (.one .readExc))

/-- What a step does: a chain of moves, an edit whose command is answered, or a device reset. -/
theorem step_outcome {s t : State} (h : step s = .next t) :
    Moves 21 s t ∨ (∃ m u mp, Moves 1 s m ∧ Edit m u ∧ t = { u with mp := mp }) ∨
      ∃ m held, Moves 1 s m ∧ t = resetPart held m := by
  unfold step at h
  split at h
  · cases h; exact .inl .stay
  · rename_i c rest _
    have dequeue : Moves 1 s { s with pending := rest } :=
      .one (.quiet rest s.resetLow s.samplePort s.events s.mp s.sv s.env)
    by_cases hc : ∃ held, c = .deviceReset held
    · obtain ⟨held, rfl⟩ := hc
      cases h
      exact .inr (.inr ⟨_, held, dequeue, rfl⟩)
    · rcases exec_outcome (fun held he => hc ⟨held, he⟩) h with moves | ⟨u, mp, edit, rfl⟩
      · exact .inl (dequeue.trans moves)
      · exact .inr (.inl ⟨_, u, mp, dequeue, edit, rfl⟩)

/-- A law that every move, every edit and the device reset keep is kept by every step. -/
theorem step_keeps {P : State → Prop} (move : ∀ {s t}, Move s t → P s → P t) (edit : ∀ {s t}, Edit s t → P s → P t)
    (reset : ∀ held {s}, P s → P (resetPart held s)) {s t : State} (hs : P s) (h : step s = .next t) : P t := by
  rcases step_outcome h with moves | ⟨m, u, mp, dequeue, changed, rfl⟩ | ⟨m, held, dequeue, rfl⟩
  · exact moves.keeps move hs
  · exact (Moves.setMp mp).keeps move (edit changed (dequeue.keeps move hs))
  · exact reset held (dequeue.keeps move hs)

end Sys2Proof.Machine
end

section
/-! PROOFS. Frames and fields of the operations that a move can be and of which the laws files do not yet speak: reads of
the rings, datum requests, cancels and marks, and the edits. -/

namespace Sys2Proof.Machine

theorem endMainRead_frame (complete : Bool) (s : State) :
    endMainRead complete s = { s with main := (endMainRead complete s).main, hold := (endMainRead complete s).hold } := by
  unfold endMainRead
  split
  · split
    · rw [holdCompare_frame]
    · rfl
  · rfl

theorem endExceptionRead_frame (complete : Bool) (s : State) :
    endExceptionRead complete s = { s with exc := (endExceptionRead complete s).exc } := by
  unfold endExceptionRead
  split <;> rfl

theorem takeMark_frame (input : RefInput) (edge : Edge) (s : State) :
    takeMark input edge s =
      { s with
        axes := (takeMark input edge s).axes
        slots := (takeMark input edge s).slots
        capture := (takeMark input edge s).capture
        main := { s.main with lost := (takeMark input edge s).main.lost }
        events := { s.events with pending := (takeMark input edge s).events.pending } } := by
  unfold takeMark
  rw [applyDatums_frame]

/-! ### The end of a read of the main ring -/

@[simp] theorem endMainRead_params (complete : Bool) (s : State) :
    (endMainRead complete s).params = s.params := by rw [endMainRead_frame]
@[simp] theorem endMainRead_channels (complete : Bool) (s : State) :
    (endMainRead complete s).channels = s.channels := by rw [endMainRead_frame]
@[simp] theorem endMainRead_lock (complete : Bool) (s : State) :
    (endMainRead complete s).lock = s.lock := by rw [endMainRead_frame]
@[simp] theorem endMainRead_refr (complete : Bool) (s : State) :
    (endMainRead complete s).refr = s.refr := by rw [endMainRead_frame]
@[simp] theorem endMainRead_axes (complete : Bool) (s : State) :
    (endMainRead complete s).axes = s.axes := by rw [endMainRead_frame]
@[simp] theorem endMainRead_slots (complete : Bool) (s : State) :
    (endMainRead complete s).slots = s.slots := by rw [endMainRead_frame]
@[simp] theorem endMainRead_motion (complete : Bool) (s : State) :
    (endMainRead complete s).motion = s.motion := by rw [endMainRead_frame]
@[simp] theorem endMainRead_due (complete : Bool) (s : State) :
    (endMainRead complete s).due = s.due := by rw [endMainRead_frame]
@[simp] theorem endMainRead_capture (complete : Bool) (s : State) :
    (endMainRead complete s).capture = s.capture := by rw [endMainRead_frame]
@[simp] theorem endMainRead_matcher (complete : Bool) (s : State) :
    (endMainRead complete s).matcher = s.matcher := by rw [endMainRead_frame]
@[simp] theorem endMainRead_scan (complete : Bool) (s : State) :
    (endMainRead complete s).scan = s.scan := by rw [endMainRead_frame]
@[simp] theorem endMainRead_exc (complete : Bool) (s : State) :
    (endMainRead complete s).exc = s.exc := by rw [endMainRead_frame]
@[simp] theorem endMainRead_gen (complete : Bool) (s : State) :
    (endMainRead complete s).gen = s.gen := by rw [endMainRead_frame]
@[simp] theorem endMainRead_mp (complete : Bool) (s : State) :
    (endMainRead complete s).mp = s.mp := by rw [endMainRead_frame]

/-! ### The end of a read of the exception ring -/

@[simp] theorem endExceptionRead_params (complete : Bool) (s : State) :
    (endExceptionRead complete s).params = s.params := by rw [endExceptionRead_frame]
@[simp] theorem endExceptionRead_channels (complete : Bool) (s : State) :
    (endExceptionRead complete s).channels = s.channels := by rw [endExceptionRead_frame]
@[simp] theorem endExceptionRead_lock (complete : Bool) (s : State) :
    (endExceptionRead complete s).lock = s.lock := by rw [endExceptionRead_frame]
@[simp] theorem endExceptionRead_refr (complete : Bool) (s : State) :
    (endExceptionRead complete s).refr = s.refr := by rw [endExceptionRead_frame]
@[simp] theorem endExceptionRead_axes (complete : Bool) (s : State) :
    (endExceptionRead complete s).axes = s.axes := by rw [endExceptionRead_frame]
@[simp] theorem endExceptionRead_slots (complete : Bool) (s : State) :
    (endExceptionRead complete s).slots = s.slots := by rw [endExceptionRead_frame]
@[simp] theorem endExceptionRead_motion (complete : Bool) (s : State) :
    (endExceptionRead complete s).motion = s.motion := by rw [endExceptionRead_frame]
@[simp] theorem endExceptionRead_due (complete : Bool) (s : State) :
    (endExceptionRead complete s).due = s.due := by rw [endExceptionRead_frame]
@[simp] theorem endExceptionRead_capture (complete : Bool) (s : State) :
    (endExceptionRead complete s).capture = s.capture := by rw [endExceptionRead_frame]
@[simp] theorem endExceptionRead_matcher (complete : Bool) (s : State) :
    (endExceptionRead complete s).matcher = s.matcher := by rw [endExceptionRead_frame]
@[simp] theorem endExceptionRead_scan (complete : Bool) (s : State) :
    (endExceptionRead complete s).scan = s.scan := by rw [endExceptionRead_frame]
@[simp] theorem endExceptionRead_hold (complete : Bool) (s : State) :
    (endExceptionRead complete s).hold = s.hold := by rw [endExceptionRead_frame]
@[simp] theorem endExceptionRead_main (complete : Bool) (s : State) :
    (endExceptionRead complete s).main = s.main := by rw [endExceptionRead_frame]
@[simp] theorem endExceptionRead_gen (complete : Bool) (s : State) :
    (endExceptionRead complete s).gen = s.gen := by rw [endExceptionRead_frame]
@[simp] theorem endExceptionRead_mp (complete : Bool) (s : State) :
    (endExceptionRead complete s).mp = s.mp := by rw [endExceptionRead_frame]

/-! ### A reference mark -/

@[simp] theorem takeMark_params (input : RefInput) (edge : Edge) (s : State) :
    (takeMark input edge s).params = s.params := by rw [takeMark_frame]
@[simp] theorem takeMark_channels (input : RefInput) (edge : Edge) (s : State) :
    (takeMark input edge s).channels = s.channels := by rw [takeMark_frame]
@[simp] theorem takeMark_lock (input : RefInput) (edge : Edge) (s : State) :
    (takeMark input edge s).lock = s.lock := by rw [takeMark_frame]
@[simp] theorem takeMark_refr (input : RefInput) (edge : Edge) (s : State) :
    (takeMark input edge s).refr = s.refr := by rw [takeMark_frame]
@[simp] theorem takeMark_motion (input : RefInput) (edge : Edge) (s : State) :
    (takeMark input edge s).motion = s.motion := by rw [takeMark_frame]
@[simp] theorem takeMark_due (input : RefInput) (edge : Edge) (s : State) :
    (takeMark input edge s).due = s.due := by rw [takeMark_frame]
@[simp] theorem takeMark_matcher (input : RefInput) (edge : Edge) (s : State) :
    (takeMark input edge s).matcher = s.matcher := by rw [takeMark_frame]
@[simp] theorem takeMark_scan (input : RefInput) (edge : Edge) (s : State) :
    (takeMark input edge s).scan = s.scan := by rw [takeMark_frame]
@[simp] theorem takeMark_hold (input : RefInput) (edge : Edge) (s : State) :
    (takeMark input edge s).hold = s.hold := by rw [takeMark_frame]
@[simp] theorem takeMark_exc (input : RefInput) (edge : Edge) (s : State) :
    (takeMark input edge s).exc = s.exc := by rw [takeMark_frame]
@[simp] theorem takeMark_gen (input : RefInput) (edge : Edge) (s : State) :
    (takeMark input edge s).gen = s.gen := by rw [takeMark_frame]
@[simp] theorem takeMark_mp (input : RefInput) (edge : Edge) (s : State) :
    (takeMark input edge s).mp = s.mp := by rw [takeMark_frame]
@[simp] theorem takeMark_mainRecords (input : RefInput) (edge : Edge) (s : State) :
    (takeMark input edge s).main.records = s.main.records := by rw [takeMark_frame]

/-! ### A datum request -/

@[simp] theorem requestDatum_params (s : State) (j : Fin 4) (owner : Owner) (source : DatumSource) (edge : Edge)
    (preset : Int) (timeout : Nat) :
    (requestDatum s j owner source edge preset timeout).1.params = s.params := by rw [requestDatum_frame]
@[simp] theorem requestDatum_channels (s : State) (j : Fin 4) (owner : Owner) (source : DatumSource) (edge : Edge)
    (preset : Int) (timeout : Nat) :
    (requestDatum s j owner source edge preset timeout).1.channels = s.channels := by rw [requestDatum_frame]
@[simp] theorem requestDatum_lock (s : State) (j : Fin 4) (owner : Owner) (source : DatumSource) (edge : Edge)
    (preset : Int) (timeout : Nat) :
    (requestDatum s j owner source edge preset timeout).1.lock = s.lock := by rw [requestDatum_frame]
@[simp] theorem requestDatum_refr (s : State) (j : Fin 4) (owner : Owner) (source : DatumSource) (edge : Edge)
    (preset : Int) (timeout : Nat) :
    (requestDatum s j owner source edge preset timeout).1.refr = s.refr := by rw [requestDatum_frame]
@[simp] theorem requestDatum_axes (s : State) (j : Fin 4) (owner : Owner) (source : DatumSource) (edge : Edge)
    (preset : Int) (timeout : Nat) :
    (requestDatum s j owner source edge preset timeout).1.axes = s.axes := by rw [requestDatum_frame]
@[simp] theorem requestDatum_motion (s : State) (j : Fin 4) (owner : Owner) (source : DatumSource) (edge : Edge)
    (preset : Int) (timeout : Nat) :
    (requestDatum s j owner source edge preset timeout).1.motion = s.motion := by rw [requestDatum_frame]
@[simp] theorem requestDatum_due (s : State) (j : Fin 4) (owner : Owner) (source : DatumSource) (edge : Edge)
    (preset : Int) (timeout : Nat) :
    (requestDatum s j owner source edge preset timeout).1.due = s.due := by rw [requestDatum_frame]
@[simp] theorem requestDatum_capture (s : State) (j : Fin 4) (owner : Owner) (source : DatumSource) (edge : Edge)
    (preset : Int) (timeout : Nat) :
    (requestDatum s j owner source edge preset timeout).1.capture = s.capture := by rw [requestDatum_frame]
@[simp] theorem requestDatum_matcher (s : State) (j : Fin 4) (owner : Owner) (source : DatumSource) (edge : Edge)
    (preset : Int) (timeout : Nat) :
    (requestDatum s j owner source edge preset timeout).1.matcher = s.matcher := by rw [requestDatum_frame]
@[simp] theorem requestDatum_scan (s : State) (j : Fin 4) (owner : Owner) (source : DatumSource) (edge : Edge)
    (preset : Int) (timeout : Nat) :
    (requestDatum s j owner source edge preset timeout).1.scan = s.scan := by rw [requestDatum_frame]
@[simp] theorem requestDatum_hold (s : State) (j : Fin 4) (owner : Owner) (source : DatumSource) (edge : Edge)
    (preset : Int) (timeout : Nat) :
    (requestDatum s j owner source edge preset timeout).1.hold = s.hold := by rw [requestDatum_frame]
@[simp] theorem requestDatum_main (s : State) (j : Fin 4) (owner : Owner) (source : DatumSource) (edge : Edge)
    (preset : Int) (timeout : Nat) :
    (requestDatum s j owner source edge preset timeout).1.main = s.main := by rw [requestDatum_frame]
@[simp] theorem requestDatum_exc (s : State) (j : Fin 4) (owner : Owner) (source : DatumSource) (edge : Edge)
    (preset : Int) (timeout : Nat) :
    (requestDatum s j owner source edge preset timeout).1.exc = s.exc := by rw [requestDatum_frame]
@[simp] theorem requestDatum_gen (s : State) (j : Fin 4) (owner : Owner) (source : DatumSource) (edge : Edge)
    (preset : Int) (timeout : Nat) :
    (requestDatum s j owner source edge preset timeout).1.gen = s.gen := by rw [requestDatum_frame]
@[simp] theorem requestDatum_mp (s : State) (j : Fin 4) (owner : Owner) (source : DatumSource) (edge : Edge)
    (preset : Int) (timeout : Nat) :
    (requestDatum s j owner source edge preset timeout).1.mp = s.mp := by rw [requestDatum_frame]

/-! ### A datum cancel -/

@[simp] theorem cancelDatum_params (s : State) (j : Fin 4) (owner : Owner) :
    (cancelDatum s j owner).1.params = s.params := by rw [cancelDatum_frame]
@[simp] theorem cancelDatum_channels (s : State) (j : Fin 4) (owner : Owner) :
    (cancelDatum s j owner).1.channels = s.channels := by rw [cancelDatum_frame]
@[simp] theorem cancelDatum_lock (s : State) (j : Fin 4) (owner : Owner) :
    (cancelDatum s j owner).1.lock = s.lock := by rw [cancelDatum_frame]
@[simp] theorem cancelDatum_refr (s : State) (j : Fin 4) (owner : Owner) :
    (cancelDatum s j owner).1.refr = s.refr := by rw [cancelDatum_frame]
@[simp] theorem cancelDatum_axes (s : State) (j : Fin 4) (owner : Owner) :
    (cancelDatum s j owner).1.axes = s.axes := by rw [cancelDatum_frame]
@[simp] theorem cancelDatum_motion (s : State) (j : Fin 4) (owner : Owner) :
    (cancelDatum s j owner).1.motion = s.motion := by rw [cancelDatum_frame]
@[simp] theorem cancelDatum_due (s : State) (j : Fin 4) (owner : Owner) :
    (cancelDatum s j owner).1.due = s.due := by rw [cancelDatum_frame]
@[simp] theorem cancelDatum_capture (s : State) (j : Fin 4) (owner : Owner) :
    (cancelDatum s j owner).1.capture = s.capture := by rw [cancelDatum_frame]
@[simp] theorem cancelDatum_matcher (s : State) (j : Fin 4) (owner : Owner) :
    (cancelDatum s j owner).1.matcher = s.matcher := by rw [cancelDatum_frame]
@[simp] theorem cancelDatum_scan (s : State) (j : Fin 4) (owner : Owner) :
    (cancelDatum s j owner).1.scan = s.scan := by rw [cancelDatum_frame]
@[simp] theorem cancelDatum_hold (s : State) (j : Fin 4) (owner : Owner) :
    (cancelDatum s j owner).1.hold = s.hold := by rw [cancelDatum_frame]
@[simp] theorem cancelDatum_main (s : State) (j : Fin 4) (owner : Owner) :
    (cancelDatum s j owner).1.main = s.main := by rw [cancelDatum_frame]
@[simp] theorem cancelDatum_exc (s : State) (j : Fin 4) (owner : Owner) :
    (cancelDatum s j owner).1.exc = s.exc := by rw [cancelDatum_frame]
@[simp] theorem cancelDatum_gen (s : State) (j : Fin 4) (owner : Owner) :
    (cancelDatum s j owner).1.gen = s.gen := by rw [cancelDatum_frame]
@[simp] theorem cancelDatum_mp (s : State) (j : Fin 4) (owner : Owner) :
    (cancelDatum s j owner).1.mp = s.mp := by rw [cancelDatum_frame]

/-! ### The opening of a scan -/

@[simp] theorem openScanWith_params (d : Descriptor) (s : State) : (openScanWith d s).params = s.params := rfl
@[simp] theorem openScanWith_channels (d : Descriptor) (s : State) : (openScanWith d s).channels = s.channels := rfl
@[simp] theorem openScanWith_lock (d : Descriptor) (s : State) : (openScanWith d s).lock = s.lock := rfl
@[simp] theorem openScanWith_refr (d : Descriptor) (s : State) : (openScanWith d s).refr = s.refr := rfl
@[simp] theorem openScanWith_axes (d : Descriptor) (s : State) : (openScanWith d s).axes = s.axes := rfl
@[simp] theorem openScanWith_motion (d : Descriptor) (s : State) : (openScanWith d s).motion = s.motion := rfl
@[simp] theorem openScanWith_due (d : Descriptor) (s : State) : (openScanWith d s).due = s.due := rfl
@[simp] theorem openScanWith_capture (d : Descriptor) (s : State) : (openScanWith d s).capture = s.capture := rfl
@[simp] theorem openScanWith_hold (d : Descriptor) (s : State) : (openScanWith d s).hold = s.hold := rfl
@[simp] theorem openScanWith_main (d : Descriptor) (s : State) : (openScanWith d s).main = s.main := rfl
@[simp] theorem openScanWith_exc (d : Descriptor) (s : State) : (openScanWith d s).exc = s.exc := rfl
@[simp] theorem openScanWith_gen (d : Descriptor) (s : State) : (openScanWith d s).gen = s.gen := rfl
@[simp] theorem openScanWith_mp (d : Descriptor) (s : State) : (openScanWith d s).mp = s.mp := rfl

end Sys2Proof.Machine
end

section
/-! PROOFS. The parameter store: what a write puts under each parameter, and the law of the store (R6, R163, R181, R182). -/

namespace Sys2Proof.Machine

/-! ## Reading what was put -/

/-- A half of a preset. -/
def isPreset : Param → Bool
  | .servoPresetH _ | .servoPresetL _ => true
  | _ => false

theorem Params.updateChannel_get (p : Params) (c c' : Fin 4) (f : ChannelParams → ChannelParams) :
    (p.updateChannel c f).channel.get c' = if c' = c then f (p.channel.get c') else p.channel.get c' := by
  rw [updateChannel, Four.get_set]
  split
  next h => rw [h]
  next => rfl


/-- What is put under one parameter does not show under another; the halves of a preset apart. -/
theorem getParam_putParam_ne (p : Params) {q q' : Param} (v : Int) (h : q' ≠ q) (hq : isPreset q = false) :
    getParam (putParam p q v) q' = getParam p q' := by
  cases q
  case servoPresetH j => cases hq
  case servoPresetL j => cases hq
  case lineEdge input =>
    cases input <;> cases q'
    case line0.lineEdge input => cases input <;> first | rfl | exact absurd rfl h
    case line1.lineEdge input => cases input <;> first | rfl | exact absurd rfl h
    case line0.lineLatency input => cases input <;> rfl
    case line1.lineLatency input => cases input <;> rfl
    all_goals rfl
  case lineLatency input =>
    cases input <;> cases q'
    case line0.lineLatency input => cases input <;> first | rfl | exact absurd rfl h
    case line1.lineLatency input => cases input <;> first | rfl | exact absurd rfl h
    case line0.lineEdge input => cases input <;> rfl
    case line1.lineEdge input => cases input <;> rfl
    all_goals rfl
  case servoMap i =>
    cases q'
    case lineEdge i => cases i <;> rfl
    case lineLatency i => cases i <;> rfl
    case servoMap j =>
      have hne : j ≠ i := fun he => h (he ▸ rfl)
      simp only [getParam, putParam, Four.get_set_ne _ _ hne]
    all_goals rfl
  case weight j c =>
    cases q'
    case lineEdge i => cases i <;> rfl
    case lineLatency i => cases i <;> rfl
    case weight j' c' =>
      simp only [getParam, putParam, Four.get_set]
      split
      next hj =>
        have hne : c' ≠ c := fun he => h (he ▸ hj ▸ rfl)
        rw [Four.get_set_ne _ _ hne, hj]
      next => rfl
    all_goals rfl
  all_goals
    cases q'
    case lineEdge input => cases input <;> rfl
    case lineLatency input => cases input <;> rfl
    all_goals first
      | rfl
      | exact absurd rfl h
      | (simp only [getParam, putParam, Params.updateChannel_get]; split <;> simp_all)

/-- The parameters that a write stores clamped and nothing more. -/
def storesPlainly : Param → Bool
  | .ampMin _ | .ampMax _ | .highWater | .lowWater | .servoPresetH _ | .servoPresetL _ => false
  | _ => true

theorem storeParam_plain (p : Params) {q : Param} (v : Int) (h : storesPlainly q = true) :
    storeParam p q v = (putParam p q (clampParam q v), clampParam q v != v) := by
  cases q <;> first | rfl | cases h

theorem isPreset_of_storesPlainly {q : Param} (h : storesPlainly q = true) : isPreset q = false := by
  cases q <;> first | rfl | cases h

theorem putParam_servoPreset (p : Params) {q : Param} (v : Int) (h : isPreset q = false) :
    (putParam p q v).servoPreset = p.servoPreset := by
  cases q
  case lineEdge input => cases input <;> rfl
  case lineLatency input => cases input <;> rfl
  all_goals first | rfl | cases h

theorem getParam_withPreset (p : Params) {q : Param} (presets : Four Int) (h : isPreset q = false) :
    getParam { p with servoPreset := presets } q = getParam p q := by
  cases q
  case lineEdge input => cases input <;> rfl
  case lineLatency input => cases input <;> rfl
  all_goals first | rfl | cases h

theorem clampTo_bounds {lo hi : Int} (v : Int) (h : lo ≤ hi) : lo ≤ clampTo lo hi v ∧ clampTo lo hi v ≤ hi := by
  unfold clampTo; split
  · omega
  · split <;> omega

theorem clampTo_eq_self {lo hi v : Int} (h : lo ≤ v ∧ v ≤ hi) : clampTo lo hi v = v := by
  unfold clampTo; split
  · omega
  · split <;> omega

theorem paramKind_ordered {q : Param} {lo hi : Int} (h : paramKind q = .numeric lo hi) : lo ≤ hi := by
  cases q <;> simp only [paramKind, ParamKind.numeric.injEq, reduceCtorEq] at h <;> omega

/-- The value that a write leaves is one that the parameter may hold. -/
theorem clampParam_holds {q : Param} {v : Int} (h : validCode q v = true) : (paramKind q).Holds (clampParam q v) := by
  unfold validCode at h
  unfold clampParam
  split at h
  next lo hi hk => rw [hk]; exact clampTo_bounds v (paramKind_ordered hk)
  next values hk => rw [hk]; exact List.contains_iff_mem.mp h

/-- An enumerated parameter is stored as written. -/
theorem clampParam_codes {q : Param} {values : List Int} (h : paramKind q = .codes values) (v : Int) :
    clampParam q v = v := by
  simp [clampParam, h]

theorem clampParam_numeric {q : Param} {lo hi : Int} (h : paramKind q = .numeric lo hi) (v : Int) :
    clampParam q v = clampTo lo hi v := by
  simp [clampParam, h]

theorem codesBelow_holds {n : Nat} {v : Int} (h : (ParamKind.codes (codesBelow n)).Holds v) : 0 ≤ v ∧ v < n := by
  simp only [ParamKind.Holds, codesBelow, List.map_id', List.bind_eq_flatMap, List.mem_flatMap, List.mem_range] at h
  obtain ⟨k, hk, hv⟩ := h
  have : v = k := by simpa using hv
  omega

theorem memberCode_memberOfValue {absent v : Int} (h : (0 ≤ v ∧ v < 4) ∨ v = absent) (ha : absent < 0 ∨ 3 < absent) :
    memberCode absent (memberOfValue v) = v := by
  unfold memberOfValue
  split
  next h0 => exact h0.symm
  split
  next h1 => exact h1.symm
  split
  next h2 => exact h2.symm
  split
  next h3 => exact h3.symm
  next => simp only [memberCode]; omega

theorem switchCode_eq {v : Int} (h : 0 ≤ v ∧ v < 2) : switchCode (v == 1) = v := by
  have : v = 0 ∨ v = 1 := by omega
  rcases this with rfl | rfl <;> rfl

theorem edgeCode_eq {v : Int} (h : 0 ≤ v ∧ v < 2) : edgeCode (if v = 1 then .falling else .rising) = v := by
  have : v = 0 ∨ v = 1 := by omega
  rcases this with rfl | rfl <;> rfl

theorem nibble_toNat {v : Int} (h : 0 ≤ v ∧ v < 16) : ((BitVec.ofInt 4 v).toNat : Int) = v := by
  rw [BitVec.toNat_ofInt]; omega

/-- A value that the parameter may hold is read as it was put (R181). -/
theorem getParam_putParam_same (p : Params) {q : Param} {v : Int} (h : (paramKind q).Holds v) :
    getParam (putParam p q v) q = v := by
  cases q <;> simp only [paramKind] at h
  case lineEdge input => cases input <;> exact edgeCode_eq (codesBelow_holds h)
  case lineLatency input => cases input <;> rfl
  case settleSel => exact Int.toNat_of_nonneg (codesBelow_holds h).1
  case lockSettle => exact Int.toNat_of_nonneg (codesBelow_holds h).1
  case gateSel => exact Int.toNat_of_nonneg (codesBelow_holds h).1
  case lossPersist => exact Int.toNat_of_nonneg (by have := h.1; omega)
  case envStaleLimit => exact Int.toNat_of_nonneg (by have := h.1; omega)
  case stableGates => exact Int.toNat_of_nonneg (by have := h.1; omega)
  case highWater => exact Int.toNat_of_nonneg (by have := h.1; omega)
  case lowWater => exact Int.toNat_of_nonneg (by have := h.1; omega)
  case holdTimeout => exact Int.toNat_of_nonneg (by have := h.1; omega)
  case testAmp => exact Int.toNat_of_nonneg (by have := h.1; omega)
  case testPeriod => exact Int.toNat_of_nonneg (by have := h.1; omega)
  case testDrop => exact Int.toNat_of_nonneg (by have := h.1; omega)
  case testAdvance => exact Int.toNat_of_nonneg (by have := h.1; omega)
  case lockOverride => exact switchCode_eq (codesBelow_holds h)
  case vacuum => exact switchCode_eq (codesBelow_holds h)
  case lineOutside => exact switchCode_eq (codesBelow_holds h)
  case captureAxes => exact nibble_toNat (codesBelow_holds h)
  case testPatterns => exact nibble_toNat (codesBelow_holds h)
  case trackerCh =>
    refine memberCode_memberOfValue ?_ (by decide)
    simp only [ParamKind.Holds, List.mem_cons, List.not_mem_nil, or_false] at h
    omega
  case servoMap i =>
    simp only [putParam, getParam, Four.get_set_same]
    refine memberCode_memberOfValue ?_ (by decide)
    have := codesBelow_holds h
    omega
  case servoPresetH j =>
    simp only [putParam, getParam, Four.get_set_same, presetHigh, presetLow]
    omega
  case servoPresetL j =>
    simp only [ParamKind.Holds] at h
    simp only [putParam, getParam, Four.get_set_same, presetHigh, presetLow]
    omega
  case weight j c => simp [putParam, getParam]
  all_goals simp [putParam, getParam]

/-! ## The law of the store -/

theorem tableKind_holds_of_paramKind {q : Param} {v : Int} (h : (paramKind q).Holds v) (hq : ∀ c, q ≠ .ampMax c) :
    (tableKind q).Holds v := by
  cases q
  case ampMax c => exact absurd rfl (hq c)
  all_goals exact h

theorem paramKind_holds_of_tableKind {q : Param} {v : Int} (h : (tableKind q).Holds v) : (paramKind q).Holds v := by
  cases q
  case ampMax c => exact ⟨by have := h.1; omega, h.2⟩
  all_goals exact h

/-- A value of its row put under a parameter leaves every parameter with a value of its row. -/
theorem ranges_put {p : Params} (h : ∀ q, (tableKind q).Holds (getParam p q)) {q : Param} {v : Int}
    (hv : (tableKind q).Holds v) (hq : isPreset q = false) (q' : Param) :
    (tableKind q').Holds (getParam (putParam p q v) q') := by
  by_cases he : q' = q
  · subst he
    rw [getParam_putParam_same p (paramKind_holds_of_tableKind hv)]
    exact hv
  · rw [getParam_putParam_ne p v he hq]
    exact h q'

/-- A value of its row put under a plain parameter keeps the store lawful. -/
theorem ParamLaw.put {p : Params} (h : ParamLaw p) {q : Param} {v : Int} (hv : (tableKind q).Holds v)
    (hq : storesPlainly q = true) : ParamLaw (putParam p q v) := by
  have hpreset := isPreset_of_storesPlainly hq
  have other : ∀ q', storesPlainly q' = false → getParam (putParam p q v) q' = getParam p q' := by
    intro q' hq'
    exact getParam_putParam_ne p v (fun he => by simp [he, hq] at hq') hpreset
  obtain ⟨ranges, window, marks, presets⟩ := h
  refine ⟨ranges_put ranges hv hpreset, fun c => ?_, ?_, fun j => ?_⟩
  · have hmin := other (.ampMin c) rfl
    have hmax := other (.ampMax c) rfl
    simp only [getParam] at hmin hmax
    rw [hmin, hmax]; exact window c
  · have hlow := other .lowWater rfl
    have hhigh := other .highWater rfl
    simp only [getParam, Int.natCast_inj] at hlow hhigh
    rw [hlow, hhigh]; exact marks
  · rw [putParam_servoPreset p v hpreset]; exact presets j

theorem storedAmpMax_bounds (v : Int) : 65 ≤ storedAmpMax v ∧ storedAmpMax v ≤ 32767 := by
  have := clampTo_bounds (lo := 64) (hi := 32767) v (by decide)
  unfold storedAmpMax; split <;> omega

theorem ParamLaw.storeAmpMin {p : Params} (h : ParamLaw p) (c : Fin 4) (v : Int) :
    ParamLaw (storeParam p (.ampMin c) v).1 := by
  obtain ⟨ranges, window, marks, presets⟩ := h
  have hrow : (tableKind (.ampMin c)).Holds (storedAmpMin (p.channel.get c) v) := by
    have hclamp := clampTo_bounds (lo := 64) (hi := 32767) v (by decide)
    have hmax : 65 ≤ (p.channel.get c).ampMax ∧ (p.channel.get c).ampMax ≤ 32767 := ranges (.ampMax c)
    show 64 ≤ storedAmpMin (p.channel.get c) v ∧ storedAmpMin (p.channel.get c) v ≤ 32767
    unfold storedAmpMin; split <;> omega
  rw [storeParam_ampMin]
  refine ⟨ranges_put ranges hrow rfl, fun c' => ?_, marks, presets⟩
  rw [Params.updateChannel_get]
  split
  next hc => rw [hc]; exact storedAmpMin_lt _ v
  next => exact window c'

theorem ParamLaw.storeAmpMax {p : Params} (h : ParamLaw p) (c : Fin 4) (v : Int) :
    ParamLaw (storeParam p (.ampMax c) v).1 := by
  obtain ⟨ranges, window, marks, presets⟩ := h
  have hstored := storedAmpMax_bounds v
  have hmin : 64 ≤ (p.channel.get c).ampMin ∧ (p.channel.get c).ampMin ≤ 32767 := ranges (.ampMin c)
  have hrow : (tableKind (.ampMin c)).Holds (loweredAmpMin (p.channel.get c) (storedAmpMax v)) := by
    show 64 ≤ loweredAmpMin (p.channel.get c) (storedAmpMax v) ∧ loweredAmpMin (p.channel.get c) (storedAmpMax v) ≤ 32767
    unfold loweredAmpMin; split <;> omega
  rw [storeParam_ampMax]
  refine ⟨?_, fun c' => ?_, marks, presets⟩
  · have hput := ranges_put (ranges_put ranges (q := .ampMax c) (v := storedAmpMax v) hstored rfl) hrow rfl
    simpa only [putParam, Params.updateChannel_updateChannel] using hput
  · rw [Params.updateChannel_get]
    split
    next hc => rw [hc]; exact loweredAmpMin_lt _ _
    next => exact window c'

theorem ParamLaw.storeHighWater {p : Params} (h : ParamLaw p) (v : Int) : ParamLaw (storeParam p .highWater v).1 := by
  obtain ⟨ranges, window, marks, presets⟩ := h
  have hlow : 0 ≤ (p.lowWater : Int) ∧ (p.lowWater : Int) ≤ 511 := ranges .lowWater
  have hclamp := clampTo_bounds (lo := p.lowWater + 1) (hi := 512) v (by omega)
  refine ⟨ranges_put ranges (q := .highWater) ⟨by omega, hclamp.2⟩ rfl, window, ?_, presets⟩
  show p.lowWater < (clampTo (p.lowWater + 1) 512 v).toNat
  omega

theorem ParamLaw.storeLowWater {p : Params} (h : ParamLaw p) (v : Int) : ParamLaw (storeParam p .lowWater v).1 := by
  obtain ⟨ranges, window, marks, presets⟩ := h
  have hhigh : 1 ≤ (p.highWater : Int) ∧ (p.highWater : Int) ≤ 512 := ranges .highWater
  have hclamp := clampTo_bounds (lo := 0) (hi := p.highWater - 1) v (by omega)
  refine ⟨ranges_put ranges (q := .lowWater) ⟨hclamp.1, by omega⟩ rfl, window, ?_, presets⟩
  show (clampTo 0 (p.highWater - 1) v).toNat < p.highWater
  omega

/-- A preset in its range keeps the store lawful; its halves then lie in theirs (R182). -/
theorem ParamLaw.withPreset {p : Params} (h : ParamLaw p) (j : Fin 4) {preset : Int}
    (hp : inLengthRange preset = true) : ParamLaw { p with servoPreset := p.servoPreset.set j preset } := by
  obtain ⟨ranges, window, marks, presets⟩ := h
  have bounds : ∀ {x : Int}, inLengthRange x = true → -140737488355327 ≤ x ∧ x ≤ 140737488355327 :=
    fun hx => of_decide_eq_true hx
  have stored : ∀ i, inLengthRange ((p.servoPreset.set j preset).get i) = true := by
    intro i
    rw [Four.get_set]
    split
    · exact hp
    · exact presets i
  refine ⟨fun q => ?_, window, marks, stored⟩
  cases hq : isPreset q with
  | false => rw [getParam_withPreset p _ hq]; exact ranges q
  | true =>
    cases q
    case servoPresetH i =>
      have := bounds (stored i)
      show -32768 ≤ presetHigh ((p.servoPreset.set j preset).get i) ∧ presetHigh ((p.servoPreset.set j preset).get i) ≤ 32767
      unfold presetHigh; omega
    case servoPresetL i =>
      show 0 ≤ presetLow ((p.servoPreset.set j preset).get i) ∧ presetLow ((p.servoPreset.set j preset).get i) ≤ 4294967295
      unfold presetLow; omega
    all_goals cases hq

theorem clampLength_inRange (v : Int) : inLengthRange (clampTo (-Config.lengthLimit) Config.lengthLimit v) = true := by
  have := clampTo_bounds (lo := -Config.lengthLimit) (hi := Config.lengthLimit) v (by decide)
  exact decide_eq_true this

/-- A taken write keeps the store lawful. -/
theorem ParamLaw.store {p : Params} (h : ParamLaw p) {q : Param} {v : Int} (hv : validCode q v = true) :
    ParamLaw (storeParam p q v).1 := by
  cases hq : storesPlainly q with
  | true =>
    rw [storeParam_plain p v hq]
    refine h.put (tableKind_holds_of_paramKind (clampParam_holds hv) ?_) hq
    rintro c rfl
    cases hq
  | false =>
    cases q
    case ampMin c => exact h.storeAmpMin c v
    case ampMax c => exact h.storeAmpMax c v
    case highWater => exact h.storeHighWater v
    case lowWater => exact h.storeLowWater v
    case servoPresetH j => exact h.withPreset j (clampLength_inRange _)
    case servoPresetL j => exact h.withPreset j (clampLength_inRange _)
    all_goals cases hq

/-- The store holds the defaults of the table after a device reset (R181). -/
theorem getParam_default (q : Param) : getParam .default q = tableDefault q := by
  cases q
  case weight j c => fin_cases j <;> fin_cases c <;> rfl
  case lineEdge input => cases input <;> rfl
  case lineLatency input => cases input <;> rfl
  case servoMap i => fin_cases i <;> rfl
  all_goals first | rfl | (rename_i i; fin_cases i <;> rfl)

theorem paramLaw_default : ParamLaw .default := by
  refine ⟨fun q => ?_, fun c => ?_, by decide, fun j => ?_⟩
  · rw [getParam_default]
    cases q
    case weight j c =>
      show -131072 ≤ (if j = 0 ∧ c = 0 then (65536 : Int) else 0) ∧ (if j = 0 ∧ c = 0 then (65536 : Int) else 0) ≤ 131071
      split <;> omega
    case servoMap i => fin_cases i <;> simp [tableKind, tableDefault, ParamKind.Holds]
    all_goals simp [tableKind, tableDefault, ParamKind.Holds]
  · fin_cases c <;> decide
  · fin_cases j <;> decide

/-! ## Steps -/

theorem Move.params_eq {s t : State} (h : Move s t) : t.params = s.params := by
  cases h <;> simp

theorem Edit.keeps_paramLaw {s t : State} (h : Edit s t) (hs : ParamLaw s.params) : ParamLaw t.params := by
  cases h
  case write q value valid closed agree => rw [applyStore_params]; exact hs.store valid
  all_goals exact hs

theorem step_keeps_paramLaw {s t : State} (hs : ParamLaw s.params) (h : step s = .next t) : ParamLaw t.params :=
  step_keeps (P := fun s => ParamLaw s.params) (fun m hs => m.params_eq ▸ hs) Edit.keeps_paramLaw
    (fun _ _ _ => paramLaw_default) hs h

end Sys2Proof.Machine
end

section
/-! PROOFS. What the shared operations do to the blocks that several laws speak of, said once: the scan with the datum
slots, the hold with the main ring, and the graduations of the table. -/

namespace Sys2Proof.Machine

/-! ## The end of a scan -/

theorem State.openScan_of_scan {s t : State} (h : t.scan = s.scan) : t.openScan = s.openScan := by
  unfold State.openScan State.scanIsOpen; rw [h]

theorem State.scanOpenOn_of_scan {s t : State} (h : t.scan = s.scan) (j : Fin 4) : t.scanOpenOn j = s.scanOpenOn j := by
  unfold State.scanOpenOn; rw [State.openScan_of_scan h]

/-- How an operation that may end the open scan leaves the scan and the datum slots (R80, R151). -/
inductive ScanEffect (s t : State) : Prop where
  | kept (scan : t.scan = s.scan) (slots : t.slots = s.slots)
  | ended (d : Descriptor) (cause : EndCause) (missed : Nat) (isOpen : s.openScan = some d)
      (scan : t.scan = { s.scan with state := cause.state, endCause := some cause, missed := some missed })
      (slots : t.slots = s.slots.set d.axis (s.slots.get d.axis).rearm)

theorem endScan_effect (cause : EndCause) (s : State) : ScanEffect s (endScan cause s) := by
  cases h : s.openScan with
  | none => rw [endScan_none h]; exact .kept rfl rfl
  | some d =>
    rw [endScan_some h]
    exact .ended d cause (missedCount d s.matcher.table) h (by simp [closeScan]) (by simp [closeScan])

/-- An effect on the scan speaks of the scan and the slots alone. -/
theorem ScanEffect.of_eq {s s' t : State} (h : ScanEffect s' t) (scan : s'.scan = s.scan) (slots : s'.slots = s.slots) :
    ScanEffect s t := by
  cases h with
  | kept hscan hslots => exact .kept (hscan.trans scan) (hslots.trans slots)
  | ended d cause missed isOpen hscan hslots =>
    exact .ended d cause missed ((State.openScan_of_scan scan).symm.trans isOpen) (by rw [hscan, scan])
      (by rw [hslots, slots])

theorem setChannels_effect (after : Four Channel) (s : State) : ScanEffect s (setChannels after s) := by
  unfold setChannels breakNotice
  simp only
  split
  · exact .kept (by simp) (by simp)
  · split
    · exact (endScan_effect _ _).of_eq (by simp) (by simp)
    · exact .kept (by simp) (by simp)

theorem frontEnd_effect (values : List (BitVec 16)) (s : State) : ScanEffect s (frontEnd values s) :=
  (setChannels_effect _ _).of_eq (by simp) (by simp)

theorem lockArrive_effect (high : Bool) (s : State) : ScanEffect s (lockArrive high s) := by
  unfold lockArrive unlockNotice
  simp only
  split
  · exact (endScan_effect _ _).of_eq (by simp) (by simp)
  · exact .kept (by simp) (by simp)

/-- A scan that is open stays open where its state and descriptor stay, and an end leaves none open. -/
theorem ScanEffect.scanOpenOn {s t : State} (h : ScanEffect s t) :
    (t.slots = s.slots ∧ ∀ j, t.scanOpenOn j = s.scanOpenOn j) ∨
      ∃ d, s.openScan = some d ∧ t.slots = s.slots.set d.axis (s.slots.get d.axis).rearm ∧
        ∀ j, t.scanOpenOn j = false := by
  cases h with
  | kept scan slots => exact .inl ⟨slots, State.scanOpenOn_of_scan scan⟩
  | ended d cause missed isOpen scan slots =>
    refine .inr ⟨d, isOpen, slots, fun j => ?_⟩
    have closed : t.scanIsOpen = false := by
      rw [State.scanIsOpen, scan]
      cases cause <;> rfl
    simp [State.scanOpenOn, State.openScan, closed]

/-! ## Records handed to the rings -/

/-- What the matcher, the main ring and the exception ring keep, the completion of a capture keeps (R115 to R119). -/
theorem finalize_keeps {P : State → Prop} {r : GateReport} {c : Capture}
    (line : ∀ q s, P s → P (matchLine q s).1)
    (main : ∀ record s, record.seq = c.seq → P s → P (handToMain record s))
    (exc : ∀ record s, record.seq = c.seq → P s → P (handToException record s)) {s : State} (hs : P s) :
    P (finalize r s c) := by
  have handed : ∀ answer record s, record.seq = c.seq → P s → P (handLine answer record s) := by
    intro answer record s hseq hs
    unfold handLine
    simp only
    split
    · exact main _ s hseq hs
    · exact exc _ s hseq hs
  unfold finalize
  split
  · exact handed _ _ _ rfl (line _ s hs)
  · exact handed _ _ s rfl hs
  · exact handed _ _ s rfl hs
  · exact main _ s rfl hs
  · exact main _ s rfl hs
  · exact main _ s rfl hs

theorem finalizeAll_keeps {P : State → Prop} {r : GateReport}
    (line : ∀ q s, P s → P (matchLine q s).1) (main : ∀ record s, P s → P (handToMain record s))
    (exc : ∀ record s, P s → P (handToException record s)) (cs : List Capture) {s : State} (hs : P s) :
    P (cs.foldl (finalize r) s) := by
  induction cs generalizing s with
  | nil => exact hs
  | cons c rest ih =>
    exact ih (finalize_keeps line (fun record s _ => main record s) (fun record s _ => exc record s) hs)

/-- A law on which the slots of the captures and the report due have no bearing is kept by the taking of the gate report
where the matcher and the rings keep it. -/
theorem takeCaptureReport_keeps {P : State → Prop}
    (freed : ∀ (s : State) inFlight due, P s → P { s with capture := { s.capture with inFlight := inFlight }, due := due })
    (line : ∀ q s, P s → P (matchLine q s).1) (main : ∀ record s, P s → P (handToMain record s))
    (exc : ∀ record s, P s → P (handToException record s)) {s : State} (hs : P s) : P (takeCaptureReport s) := by
  unfold takeCaptureReport
  split
  · exact hs
  · exact finalizeAll_keeps line main exc _ (freed s _ _ hs)

/-! ## The carriage hold -/

theorem HoldLaw.of_eq {s t : State} (h : HoldLaw s) (params : t.params = s.params)
    (records : t.main.records = s.main.records) (hold : t.hold = s.hold) : HoldLaw t := by
  unfold HoldLaw State.svHold at *
  rw [params, records, hold]
  exact h

/-- The comparison of the fill with marks in order leaves SV_HOLD asserted at a fill of HIGH_WATER (R161). -/
theorem holdCompare_svHold {s : State} (order : s.params.lowWater < s.params.highWater)
    (full : s.params.highWater ≤ s.main.records.length) : (holdCompare s).svHold = true := by
  have notLow : ¬ s.main.records.length ≤ s.params.lowWater := by omega
  cases hstate : s.hold.state <;> simp [holdCompare, State.svHold, hstate, full, notLow]

theorem holdLaw_holdCompare {s : State} (order : s.params.lowWater < s.params.highWater)
    (top : s.params.highWater ≤ 512) : HoldLaw (holdCompare s) := by
  refine ⟨by simpa using order, by simpa using top, fun full => holdCompare_svHold order (by simpa using full)⟩

theorem handToMain_keeps_holdLaw {r : Record} {s : State} (h : HoldLaw s) : HoldLaw (handToMain r s) := by
  obtain ⟨order, top, held⟩ := h
  unfold handToMain
  split
  · exact holdLaw_holdCompare order top
  · exact ⟨order, top, held⟩

theorem handToException_keeps_holdLaw {r : Record} {s : State} (h : HoldLaw s) : HoldLaw (handToException r s) :=
  h.of_eq (by simp) (by simp) (by simp)

theorem matchLine_keeps_holdLaw {q : LineQuery} {s : State} (h : HoldLaw s) : HoldLaw (matchLine q s).1 := by
  rw [matchLine_frame]; exact h

theorem endMainRead_keeps_holdLaw {complete : Bool} {s : State} (h : HoldLaw s) : HoldLaw (endMainRead complete s) := by
  obtain ⟨order, top, held⟩ := h
  unfold endMainRead
  split
  · split
    · exact holdLaw_holdCompare order top
    · exact ⟨order, top, held⟩
  · exact ⟨order, top, held⟩

/-- A completed frame takes SV_HOLD away only from a part that does not assert it (R162). -/
theorem deliverHold_svHold {flag : Bool} {s : State} (h : s.svHold = true) :
    ({ s with hold := deliverHold flag s.hold } : State).svHold = true := by
  unfold State.svHold at *
  cases hstate : s.hold.state <;> cases flag <;> simp_all [deliverHold]

theorem countHoldReport_state (s : State) : (countHoldReport s).hold.state = s.hold.state := by
  unfold countHoldReport
  split
  · simp only
    split <;> rfl
  · rfl

theorem takeHoldReport_svHold (s : State) : (takeHoldReport s).svHold = s.svHold := by
  unfold takeHoldReport
  split
  · unfold State.svHold
    rw [countHoldReport_state]
  · rfl

theorem Ring.read_records (ring : Ring) : ring.read.1.records = ring.records := by
  unfold Ring.read; split <;> rfl

theorem Ring.read_lost (ring : Ring) : ring.read.1.lost = ring.lost := by
  unfold Ring.read; split <;> rfl

theorem Move.keeps_holdLaw {s t : State} (m : Move s t) (h : HoldLaw s) : HoldLaw t := by
  cases m
  case captureReport =>
    exact takeCaptureReport_keeps (fun _ _ _ h => h) (fun _ _ => matchLine_keeps_holdLaw)
      (fun _ _ => handToMain_keeps_holdLaw) (fun _ _ => handToException_keeps_holdLaw) h
  case holdReport =>
    obtain ⟨order, top, held⟩ := h
    refine ⟨by simpa using order, by simpa using top, fun full => ?_⟩
    rw [takeHoldReport_svHold]
    exact held (by simpa using full)
  case deliverHold flag =>
    obtain ⟨order, top, held⟩ := h
    exact ⟨order, top, fun full => deliverHold_svHold (held full)⟩
  case readMain => exact h.of_eq rfl (Ring.read_records _) rfl
  case endMainRead complete => exact endMainRead_keeps_holdLaw h
  all_goals exact h.of_eq (by simp) (by simp) (by simp)

/-- The marks in order, as the law of the hold has them. -/
def MarksOrdered (p : Params) : Prop := p.lowWater < p.highWater ∧ p.highWater ≤ 512

theorem storeParam_marks (p : Params) {q : Param} (v : Int) (hhigh : q ≠ .highWater) (hlow : q ≠ .lowWater) :
    (storeParam p q v).1.lowWater = p.lowWater ∧ (storeParam p q v).1.highWater = p.highWater := by
  cases q
  case highWater => exact absurd rfl hhigh
  case lowWater => exact absurd rfl hlow
  case ampMax c => rw [storeParam_ampMax]; exact ⟨rfl, rfl⟩
  case lineEdge input => cases input <;> exact ⟨rfl, rfl⟩
  case lineLatency input => cases input <;> exact ⟨rfl, rfl⟩
  all_goals exact ⟨rfl, rfl⟩

theorem storeParam_highWater_ordered {p : Params} (h : MarksOrdered p) (v : Int) :
    MarksOrdered (storeParam p .highWater v).1 := by
  obtain ⟨order, top⟩ := h
  have hclamp := clampTo_bounds (lo := p.lowWater + 1) (hi := 512) v (by omega)
  show p.lowWater < (clampTo (p.lowWater + 1) 512 v).toNat ∧ (clampTo (p.lowWater + 1) 512 v).toNat ≤ 512
  omega

theorem storeParam_lowWater_ordered {p : Params} (h : MarksOrdered p) (v : Int) :
    MarksOrdered (storeParam p .lowWater v).1 := by
  obtain ⟨order, top⟩ := h
  have hclamp := clampTo_bounds (lo := 0) (hi := p.highWater - 1) v (by omega)
  show (clampTo 0 (p.highWater - 1) v).toNat < p.highWater ∧ p.highWater ≤ 512
  omega

/-- The hold moves at a write of a water mark alone (R163). -/
theorem applyStore_hold {q : Param} (p : Params) (s : State) (hhigh : q ≠ .highWater) (hlow : q ≠ .lowWater) :
    (applyStore q p s).hold = s.hold := by
  cases q
  case highWater => exact absurd rfl hhigh
  case lowWater => exact absurd rfl hlow
  case weight j c => simp only [applyStore]; split <;> simp [weightChanged]
  case lockOverride => simp only [applyStore]; split <;> simp [unlockNotice]
  case lambda => simp only [applyStore]; split <;> rfl
  case pathK c => simp only [applyStore]; split <;> rfl
  case deadPath c => simp only [applyStore]; split <;> rfl
  all_goals rfl

theorem Edit.keeps_holdLaw {s t : State} (e : Edit s t) (h : HoldLaw s) : HoldLaw t := by
  cases e
  case write q value valid closed agree =>
    obtain ⟨order, top, held⟩ := h
    by_cases hhigh : q = .highWater
    · subst hhigh
      exact holdLaw_holdCompare (storeParam_highWater_ordered ⟨order, top⟩ _).1 (storeParam_highWater_ordered ⟨order, top⟩ _).2
    by_cases hlow : q = .lowWater
    · subst hlow
      exact holdLaw_holdCompare (storeParam_lowWater_ordered ⟨order, top⟩ _).1 (storeParam_lowWater_ordered ⟨order, top⟩ _).2
    · have marks := storeParam_marks s.params (paramField q value) hhigh hlow
      unfold HoldLaw State.svHold
      rw [applyStore_params, applyStore_hold _ s hhigh hlow, marks.1, marks.2, applyStore_mainRecords]
      exact ⟨order, top, held⟩
  case insert => exact h
  case remove => exact h
  case restart =>
    obtain ⟨order, top, held⟩ := h
    exact ⟨order, top, fun full => absurd (show s.params.highWater ≤ 0 from full) (by omega)⟩

theorem step_keeps_holdLaw {s t : State} (hs : HoldLaw s) (h : step s = .next t) : HoldLaw t :=
  step_keeps Move.keeps_holdLaw Edit.keeps_holdLaw
    (fun _ _ _ => ⟨show 128 < 384 by decide, show 384 ≤ 512 by decide,
      fun full => absurd (show 384 ≤ 0 from full) (by decide)⟩) hs h

/-! ## What an open scan keeps -/

/-- What an entry says of its graduation (R132). -/
def Entry.shape (e : Entry) : Nat × Int × Int × Bool := (e.index, e.nominal, e.halfWindow, e.retained)

theorem Entry.hit_shape (seq : Word32) (result : MatchResult) (e : Entry) : (e.hit seq result).shape = e.shape := by
  cases result <;> rfl

theorem modify_map_of_eq {α β : Type} (f : α → α) (g : α → β) (h : ∀ x, g (f x) = g x) (l : List α) (n : Nat) :
    (l.modify n f).map g = l.map g := by
  refine List.ext_getElem (by simp) fun i h1 h2 => ?_
  simp only [List.getElem_map, List.getElem_modify]
  split
  · exact h _
  · rfl

theorem matchLine_shapes (q : LineQuery) (s : State) :
    (matchLine q s).1.matcher.table.map Entry.shape = s.matcher.table.map Entry.shape := by
  unfold matchLine lookupLine
  split
  · rfl
  · split
    · rfl
    · exact modify_map_of_eq _ _ (Entry.hit_shape _ _) _ _

theorem takeCaptureReport_shapes (s : State) :
    (takeCaptureReport s).matcher.table.map Entry.shape = s.matcher.table.map Entry.shape :=
  takeCaptureReport_keeps (P := fun t => t.matcher.table.map Entry.shape = s.matcher.table.map Entry.shape)
    (fun _ _ _ h => h) (fun q t h => (matchLine_shapes q t).trans h) (fun r t h => by simpa using h)
    (fun r t h => by simpa using h) rfl

theorem clear_shapes (table : List Entry) : (table.map Entry.clear).map Entry.shape = table.map Entry.shape := by
  rw [List.map_map]; rfl

theorem Move.shapes_eq {s t : State} (m : Move s t) :
    t.matcher.table.map Entry.shape = s.matcher.table.map Entry.shape := by
  cases m
  case captureReport => exact takeCaptureReport_shapes s
  case openScan d free => exact clear_shapes _
  all_goals simp

/-- A write leaves every plain parameter but its own as it was. -/
theorem getParam_storeParam_ne (p : Params) {q q' : Param} (v : Int) (h : q' ≠ q) (hq : storesPlainly q' = true) :
    getParam (storeParam p q v).1 q' = getParam p q' := by
  have hpreset := isPreset_of_storesPlainly hq
  cases hplain : storesPlainly q with
  | true =>
    rw [storeParam_plain p v hplain]
    exact getParam_putParam_ne p _ h (isPreset_of_storesPlainly hplain)
  | false =>
    cases q
    case ampMin c => exact getParam_putParam_ne p (q := .ampMin c) _ h rfl
    case ampMax c =>
      have hmin : q' ≠ .ampMin c := by rintro rfl; cases hq
      show getParam (if (p.channel.get c).ampMin < storedAmpMax v then (putParam p (.ampMax c) (storedAmpMax v), _)
        else (putParam (putParam p (.ampMax c) (storedAmpMax v)) (.ampMin c) (storedAmpMax v - 1), true)).1 q' = _
      split
      · exact getParam_putParam_ne p _ h rfl
      · exact (getParam_putParam_ne _ _ hmin rfl).trans (getParam_putParam_ne p _ h rfl)
    case highWater => exact getParam_putParam_ne p (q := .highWater) _ h rfl
    case lowWater => exact getParam_putParam_ne p (q := .lowWater) _ h rfl
    case servoPresetH j => exact getParam_withPreset p _ hpreset
    case servoPresetL j => exact getParam_withPreset p _ hpreset
    all_goals cases hplain

theorem entersArithmetic_eq (q : Param) : entersArithmetic q = inArithmetic q := by cases q <;> rfl

theorem storesPlainly_of_inArithmetic {q : Param} (h : inArithmetic q = true) : storesPlainly q = true := by
  cases q <;> first | rfl | cases h

/-- Settles O60: moves never touch parameters or graduations, and an open scan refuses every edit of them. -/
theorem openScansKeepArithmeticAndTable : Obligations.OpenScansKeepArithmeticAndTable := by
  intro s t i isOpen hi h
  rcases exec_outcome hi h with moves | ⟨u, mp, edit, rfl⟩
  · have kept := moves.keeps
      (P := fun t => t.params = s.params ∧ t.matcher.table.map Entry.shape = s.matcher.table.map Entry.shape)
      (fun m h => ⟨m.params_eq.trans h.1, m.shapes_eq.trans h.2⟩) ⟨rfl, rfl⟩
    exact ⟨fun q _ => by rw [kept.1], kept.2⟩
  · cases edit
    case write q value valid closed agree =>
      refine ⟨fun q' hq' => ?_, by simp⟩
      have hne : q' ≠ q := by
        rintro rfl
        simp [entersArithmetic_eq, hq', isOpen] at closed
      simpa using getParam_storeParam_ne s.params _ hne (storesPlainly_of_inArithmetic hq')
    case insert e idle room ranged fresh apart => simp [isOpen] at idle
    case remove keep idle => simp [isOpen] at idle
    case restart => exact ⟨fun _ _ => rfl, clear_shapes _⟩

end Sys2Proof.Machine
end

section
/-! PROOFS. The Refractivity Unit and the samples, as the laws need them: which fields each of the unit's steps can move,
and the phases that a classified sample can have. -/

namespace Sys2Proof.Machine

/-! ## The steps of a gate end (R35) -/

namespace Refractivity

@[simp] theorem adopt_config (c : RefrConfig) (r : Refractivity) : (r.adopt c).config = c := by
  unfold adopt
  simp only
  split
  · rfl
  split
  · rfl
  split
  · split
    next h => exact h.symm
    next => rfl
  · split <;> rfl

/-- The adoption of a configuration leaves the refractivity in use and the environment alone. -/
theorem adopt_frame (c : RefrConfig) (r : Refractivity) :
    r.adopt c =
      { r with
        config := c, tracker := (r.adopt c).tracker, nBase := (r.adopt c).nBase, pending := (r.adopt c).pending
        held := (r.adopt c).held, result := (r.adopt c).result } := by
  unfold adopt
  simp only
  split
  · rfl
  split
  · rfl
  split
  · split
    next h => rw [h]
    next => rfl
  · split <;> rfl

theorem moveTracker_frame (tracking : Bool) (count : Int) (r : Refractivity) :
    r.moveTracker tracking count =
      { r with
        tracker := (r.moveTracker tracking count).tracker, nBase := (r.moveTracker tracking count).nBase
        tBase := (r.moveTracker tracking count).tBase } := by
  unfold moveTracker
  split
  · rfl
  · split
    · split <;> rfl
    · split <;> rfl
    · rfl

theorem promote_frame (scanOpen : Bool) (r : Refractivity) :
    r.promote scanOpen =
      { r with pending := (r.promote scanOpen).pending, held := (r.promote scanOpen).held } := by
  unfold promote
  split
  · rfl
  · split
    · rfl
    · split <;> rfl

/-- The base after the adoption is the base as it was, or the refractivity in use. -/
theorem adopt_nBase (c : RefrConfig) (r : Refractivity) :
    (r.adopt c).nBase = r.nBase ∨ (r.adopt c).nBase = r.nInUse := by
  unfold adopt
  simp only
  split
  · exact .inl rfl
  split
  · split
    · exact .inr rfl
    · exact .inl rfl
  split
  · split
    · exact .inl rfl
    · exact .inr rfl
  · split <;> exact .inl rfl

theorem adopt_pending (c : RefrConfig) (r : Refractivity) :
    ((r.adopt c).pending = r.pending ∧ (r.adopt c).held = r.held) ∨
      ((r.adopt c).pending = none ∧ (r.adopt c).held = none) := by
  unfold adopt
  simp only
  split
  · exact .inl ⟨rfl, rfl⟩
  split
  · exact .inr ⟨rfl, rfl⟩
  split
  · split <;> exact .inl ⟨rfl, rfl⟩
  · split <;> exact .inl ⟨rfl, rfl⟩

theorem moveTracker_nBase (tracking : Bool) (count : Int) (r : Refractivity) :
    (r.moveTracker tracking count).nBase = r.nBase ∨ (r.moveTracker tracking count).nBase = r.nInUse := by
  unfold moveTracker
  split
  · exact .inl rfl
  · split
    · split
      · exact .inl rfl
      · exact .inr rfl
    · split <;> exact .inl rfl
    · exact .inl rfl

/-- What waits after a promotion has waited before. -/
theorem promote_pending (scanOpen : Bool) (r : Refractivity) {v : Int} (h : (r.promote scanOpen).pending = some v) :
    r.pending = some v ∨ r.held = some v := by
  unfold promote at h
  split at h
  · exact .inl h
  · split at h
    · exact .inl h
    next u hu =>
      split at h
      · exact .inl h
      · exact .inr (hu.trans h)

theorem promote_held (scanOpen : Bool) (r : Refractivity) {v : Int} (h : (r.promote scanOpen).held = some v) :
    r.held = some v := by
  unfold promote at h
  split at h
  · exact h
  · split at h
    · exact h
    · split at h <;> cases h

/-- A settled update leaves the configuration and the refractivity in use; where it is applied the environment is FRESH
with age 0. -/
theorem settleUpdate_frame (scanOpen : Bool) (stepMax count : Int) (r : Refractivity) :
    (r.settleUpdate scanOpen stepMax count).config = r.config ∧
    (r.settleUpdate scanOpen stepMax count).nInUse = r.nInUse ∧
    (r.settleUpdate scanOpen stepMax count).nFormed = r.nFormed ∧
    (r.settleUpdate scanOpen stepMax count).vacuumInForce = r.vacuumInForce ∧
    (((r.settleUpdate scanOpen stepMax count).env = r.env ∧ (r.settleUpdate scanOpen stepMax count).age = r.age) ∨
      ((r.settleUpdate scanOpen stepMax count).env = .fresh ∧ (r.settleUpdate scanOpen stepMax count).age = 0)) := by
  unfold settleUpdate
  split
  · exact ⟨rfl, rfl, rfl, rfl, .inl ⟨rfl, rfl⟩⟩
  · split
    · exact ⟨rfl, rfl, rfl, rfl, .inl ⟨rfl, rfl⟩⟩
    · split
      · exact ⟨rfl, rfl, rfl, rfl, .inl ⟨rfl, rfl⟩⟩
      · exact ⟨rfl, rfl, rfl, rfl, .inr ⟨rfl, rfl⟩⟩

/-- The base after a settled update is the base as it was, or an update that waited. -/
theorem settleUpdate_nBase (scanOpen : Bool) (stepMax count : Int) (r : Refractivity) :
    (r.settleUpdate scanOpen stepMax count).nBase = r.nBase ∨
      r.pending = some (r.settleUpdate scanOpen stepMax count).nBase := by
  unfold settleUpdate
  split
  · exact .inl rfl
  · split
    · exact .inl rfl
    next u hu =>
      split
      · exact .inl rfl
      · exact .inr hu

theorem settleUpdate_waiting (scanOpen : Bool) (stepMax count : Int) (r : Refractivity) {v : Int}
    (h : (r.settleUpdate scanOpen stepMax count).pending = some v ∨
      (r.settleUpdate scanOpen stepMax count).held = some v) :
    r.pending = some v ∨ r.held = some v := by
  unfold settleUpdate at h
  split at h
  · exact h
  · split at h
    · exact h
    next u hu =>
      split at h
      · rcases h with h | h
        · cases h
        · exact .inl (hu.trans h)
      · rcases h with h | h <;> cases h

theorem countAge_frame (limit : Nat) (r : Refractivity) :
    r.countAge limit = { r with age := (r.countAge limit).age, env := (r.countAge limit).env } := by
  unfold countAge
  split
  · split <;> rfl
  · rfl

end Refractivity

/-- The Refractivity Unit after steps 1 to 5 of a gate end, before the arrival that ended it is counted in the age
(R35). -/
def formedRefr (s : State) : Refractivity :=
  let settled := (refrConfigured s).settleUpdate s.scanIsOpen s.params.envStepMax
    (trackerCount { s with refr := refrConfigured s })
  { settled with nFormed := some (formN (trackerCount { s with refr := refrConfigured s }) settled) }

/-- The Refractivity Unit takes a gate end that is due: its steps, and the count of the age where no update is applied
(R35, R41). -/
theorem takeGateEndRefr_refr (s : State) :
    ((takeGateEndRefr s).refr = s.refr ∧ s.due.refractivity = false) ∨
      (s.due.refractivity = true ∧
        ((takeGateEndRefr s).refr = formedRefr s ∨
          (takeGateEndRefr s).refr = (formedRefr s).countAge (staleLimit s.params))) := by
  unfold takeGateEndRefr
  split
  next due =>
    simp only
    split
    · exact .inr ⟨due, .inl rfl⟩
    · rw [ageEnvironment_frame]
      exact .inr ⟨due, .inr rfl⟩
  next due => exact .inl ⟨rfl, by simpa using due⟩

/-- Steps 1 to 3 leave the refractivity in use, the value formed, the environment and the vacuum mode in force, and adopt
the stored configuration. -/
theorem refrConfigured_frame (s : State) :
    refrConfigured s =
      { s.refr with
        config := s.params.refrConfig, tracker := (refrConfigured s).tracker, nBase := (refrConfigured s).nBase
        tBase := (refrConfigured s).tBase, pending := (refrConfigured s).pending, held := (refrConfigured s).held
        result := (refrConfigured s).result } := by
  unfold refrConfigured
  simp only
  rw [Refractivity.promote_frame, Refractivity.moveTracker_frame, Refractivity.adopt_frame]

/-- What waits after steps 1 to 3 has waited before them. -/
theorem refrConfigured_waiting {s : State} {v : Int}
    (h : (refrConfigured s).pending = some v ∨ (refrConfigured s).held = some v) :
    s.refr.pending = some v ∨ s.refr.held = some v := by
  have moved : ∀ b k (r : Refractivity), (r.moveTracker b k).pending = r.pending ∧ (r.moveTracker b k).held = r.held := by
    intro b k r
    rw [Refractivity.moveTracker_frame]
    exact ⟨rfl, rfl⟩
  have adopted : (s.refr.adopt s.params.refrConfig).pending = some v ∨
      (s.refr.adopt s.params.refrConfig).held = some v := by
    rcases h with h | h
    · exact (Refractivity.promote_pending _ _ h).imp (moved _ _ _).1.symm.trans (moved _ _ _).2.symm.trans
    · exact .inr ((moved _ _ _).2.symm.trans (Refractivity.promote_held _ _ h))
  rcases Refractivity.adopt_pending s.params.refrConfig s.refr with ⟨hp, hh⟩ | ⟨hp, hh⟩
  · exact adopted.imp hp.symm.trans hh.symm.trans
  · simp [hp, hh] at adopted

/-- The base after steps 1 to 3 is the base as it was, or the refractivity in use. -/
theorem refrConfigured_nBase (s : State) :
    (refrConfigured s).nBase = s.refr.nBase ∨ (refrConfigured s).nBase = s.refr.nInUse := by
  have promoted : ∀ b (r : Refractivity), (r.promote b).nBase = r.nBase := by
    intro b r; rw [Refractivity.promote_frame]
  have inUse : (s.refr.adopt s.params.refrConfig).nInUse = s.refr.nInUse := by rw [Refractivity.adopt_frame]
  unfold refrConfigured
  simp only
  rw [promoted]
  rcases Refractivity.moveTracker_nBase
    (trackerTracking { s with refr := s.refr.adopt s.params.refrConfig })
    (trackerCount { s with refr := s.refr.adopt s.params.refrConfig }) (s.refr.adopt s.params.refrConfig) with h | h
  · rw [h]; exact Refractivity.adopt_nBase _ _
  · rw [h, inUse]; exact .inr rfl

/-! ## Samples -/

theorem phaseOf_lt (c s : Int) : phaseOf c s < 1024 := Nat.mod_lt _ (by decide)

/-- The phase of a good sample is that of its corrected pair (R9, R10). -/
theorem phase_of_good {p : ChannelParams} {s c : Int} {φ : Nat} (h : classify p s c = .good φ) :
    φ = phaseOf (correctedCosine p s c) (correctedSine p s) := by
  simp only [classify] at h
  split at h
  · cases h
  · split at h
    · cases h
    · split at h
      · cases h
      · cases h; rfl

theorem phase_lt_of_good {p : ChannelParams} {s c : Int} {φ : Nat} (h : classify p s c = .good φ) : φ < 1024 :=
  phase_of_good h ▸ phaseOf_lt _ _

/-- A bad sample is CLIPPED or SIGNAL_LOW (R10). -/
theorem kind_of_bad {p : ChannelParams} {s c : Int} {kind : LossCause} (h : classify p s c = .bad kind) :
    kind = .clipped ∨ kind = .signalLow := by
  simp only [classify] at h
  split at h
  · cases h; exact .inl rfl
  · split at h
    · cases h; exact .inr rfl
    · split at h
      · cases h; exact .inl rfl
      · cases h

end Sys2Proof.Machine
end

section
/-! PROOFS. Every step keeps the law of refractivity (R34, R41). -/

namespace Sys2Proof.Machine

/-- The part of the law of refractivity that speaks of the Refractivity Unit alone. -/
structure RefrLaw (r : Refractivity) : Prop where
  inUse : IsRefractivity r.nInUse
  vacuumInUse : r.vacuumInForce = true → r.nInUse = 0
  vacuumFresh : r.vacuumInForce = true → r.env = .fresh ∧ r.age = 0
  base : IsRefractivity r.nBase
  formed : ∀ v, r.nFormed = some v → IsRefractivity v
  pending : ∀ v, r.pending = some v → IsRefractivity v
  held : ∀ v, r.held = some v → IsRefractivity v
  vacuumFormed : r.config.vacuum = true → r.nFormed = some 0 ∨ (r.nFormed = none ∧ r.vacuumInForce = true)

theorem refractivityLaw_iff (s : State) : RefractivityLaw s ↔ RefrLaw s.refr ∧ IsRefractivity s.params.nDefault := by
  constructor
  · rintro ⟨inUse, vacuumInUse, vacuumFresh, base, default, formed, pending, held, vacuumFormed⟩
    exact ⟨⟨inUse, vacuumInUse, vacuumFresh, base, formed, pending, held, vacuumFormed⟩, default⟩
  · rintro ⟨⟨inUse, vacuumInUse, vacuumFresh, base, formed, pending, held, vacuumFormed⟩, default⟩
    exact ⟨inUse, vacuumInUse, vacuumFresh, base, default, formed, pending, held, vacuumFormed⟩

theorem isRefractivity_zero : IsRefractivity 0 := ⟨le_refl _, by decide⟩

theorem isRefractivity_clampN (v : Int) : IsRefractivity (clampN v) := clampTo_bounds v (by decide)

theorem isRefractivity_formN (count : Int) (r : Refractivity) : IsRefractivity (formN count r) := by
  unfold formN
  split
  · exact isRefractivity_zero
  · split <;> exact isRefractivity_clampN _

/-- The count of the age keeps the law: it moves nothing while vacuum mode is in force (R41). -/
theorem RefrLaw.countAge {r : Refractivity} (h : RefrLaw r) (limit : Nat) : RefrLaw (r.countAge limit) := by
  cases hv : r.vacuumInForce with
  | true =>
    have : r.countAge limit = r := by simp [Refractivity.countAge, hv]
    rw [this]; exact h
  | false =>
    obtain ⟨inUse, -, -, base, formed, pending, held, vacuumFormed⟩ := h
    rw [Refractivity.countAge_frame]
    exact ⟨inUse, by simp [hv], by simp [hv], base, formed, pending, held, vacuumFormed⟩

/-- The value formed at a gate end is 0 in vacuum mode, and every base and update that stays has been lawful before (R34 to
R40). -/
theorem RefrLaw.formedRefr {s : State} (h : RefrLaw s.refr) : RefrLaw (formedRefr s) := by
  obtain ⟨inUse, vacuumInUse, vacuumFresh, base, -, pending, held, -⟩ := h
  have waits : ∀ v, (refrConfigured s).pending = some v ∨ (refrConfigured s).held = some v → IsRefractivity v :=
    fun v hv => (refrConfigured_waiting hv).elim (pending v) (held v)
  have configured : IsRefractivity (refrConfigured s).nBase := by
    rcases refrConfigured_nBase s with hb | hb <;> rw [hb]
    · exact base
    · exact inUse
  have frame := refrConfigured_frame s
  obtain ⟨config, settledInUse, -, settledVacuum, settledEnv⟩ := Refractivity.settleUpdate_frame s.scanIsOpen
    s.params.envStepMax (trackerCount { s with refr := refrConfigured s }) (refrConfigured s)
  have sameInUse : (Machine.formedRefr s).nInUse = s.refr.nInUse := settledInUse.trans (by rw [frame])
  have sameVacuum : (Machine.formedRefr s).vacuumInForce = s.refr.vacuumInForce := settledVacuum.trans (by rw [frame])
  have sameEnv : ((Machine.formedRefr s).env = s.refr.env ∧ (Machine.formedRefr s).age = s.refr.age) ∨
      ((Machine.formedRefr s).env = .fresh ∧ (Machine.formedRefr s).age = 0) :=
    settledEnv.imp_left fun ⟨he, ha⟩ => ⟨he.trans (by rw [frame]), ha.trans (by rw [frame])⟩
  refine ⟨sameInUse ▸ inUse, fun hv => sameInUse.trans (vacuumInUse (sameVacuum.symm.trans hv)), fun hv => ?_, ?_, ?_, ?_,
    ?_, fun hv => .inl ?_⟩
  · rcases sameEnv with ⟨he, ha⟩ | fresh
    · rw [he, ha]; exact vacuumFresh (sameVacuum.symm.trans hv)
    · exact fresh
  · rcases Refractivity.settleUpdate_nBase s.scanIsOpen s.params.envStepMax
      (trackerCount { s with refr := refrConfigured s }) (refrConfigured s) with hb | hb
    · exact hb.symm ▸ configured
    · exact waits _ (.inl hb)
  · intro v hv
    cases hv
    exact isRefractivity_formN _ _
  · exact fun v hv => waits v (Refractivity.settleUpdate_waiting _ _ _ _ (.inl hv))
  · exact fun v hv => waits v (Refractivity.settleUpdate_waiting _ _ _ _ (.inr hv))
  · exact congrArg some (if_pos hv)

theorem RefrLaw.takeGateEnd {s : State} (h : RefrLaw s.refr) : RefrLaw (takeGateEndRefr s).refr := by
  rcases takeGateEndRefr_refr s with ⟨he, -⟩ | ⟨-, he | he⟩ <;> rw [he]
  · exact h
  · exact h.formedRefr
  · exact h.formedRefr.countAge _

/-- An arrival brings the value formed into use, which is 0 where vacuum mode comes into force (R34, R41, R42). -/
theorem RefrLaw.arrive {r : Refractivity} (h : RefrLaw r) : RefrLaw r.arrive := by
  obtain ⟨inUse, vacuumInUse, vacuumFresh, base, formed, pending, held, vacuumFormed⟩ := h
  have used : IsRefractivity (r.nFormed.getD r.nInUse) := by
    cases hf : r.nFormed with
    | none => exact inUse
    | some v => exact formed v hf
  have usedVacuum : r.config.vacuum = true → r.nFormed.getD r.nInUse = 0 := by
    intro hv
    rcases vacuumFormed hv with hf | ⟨hf, inForce⟩
    · rw [hf]; rfl
    · rw [hf]; exact vacuumInUse inForce
  unfold Refractivity.arrive
  simp only
  split
  next same =>
    exact ⟨used, usedVacuum, fun hv => vacuumFresh (same ▸ hv), base, by simp, pending, held,
      fun hv => .inr ⟨rfl, hv⟩⟩
  next =>
    split
    next => exact ⟨used, usedVacuum, fun _ => ⟨rfl, rfl⟩, base, by simp, pending, held, fun hv => .inr ⟨rfl, hv⟩⟩
    next hn => exact ⟨used, usedVacuum, fun hv => absurd hv hn, base, by simp, pending, held, fun hv => .inr ⟨rfl, hv⟩⟩

/-- An environment write leaves at most an update in the range waiting (R38). -/
theorem RefrLaw.applyWrite {r : Refractivity} (h : RefrLaw r) (w : WriteClass) : RefrLaw (applyWrite w r) := by
  obtain ⟨inUse, vacuumInUse, vacuumFresh, base, formed, pending, held, vacuumFormed⟩ := h
  have withPending : ∀ v, IsRefractivity v → ∀ u, some v = some u → IsRefractivity u := by rintro v hv u ⟨⟩; exact hv
  unfold Machine.applyWrite
  split
  · exact ⟨inUse, vacuumInUse, vacuumFresh, base, formed, pending, held, vacuumFormed⟩
  next nAbs =>
    unfold Refractivity.update
    split
    · exact ⟨inUse, vacuumInUse, vacuumFresh, base, formed, pending, held, vacuumFormed⟩
    · split
      · exact ⟨inUse, vacuumInUse, vacuumFresh, base, formed, withPending _ ⟨by decide, le_refl _⟩, held, vacuumFormed⟩
      next top =>
        exact ⟨inUse, vacuumInUse, vacuumFresh, base, formed, withPending _ ⟨by omega, not_lt.mp top⟩, held, vacuumFormed⟩
  · unfold Refractivity.malformed
    split <;> exact ⟨inUse, vacuumInUse, vacuumFresh, base, formed, pending, held, vacuumFormed⟩

theorem RefrLaw.countArrival {s : State} (h : RefrLaw s.refr) : RefrLaw (countArrival s).refr := by
  unfold Machine.countArrival
  split
  · exact h
  · rw [ageEnvironment_frame]; exact h.countAge _

theorem RefrLaw.reset {p : Params} (h : IsRefractivity p.nDefault) : RefrLaw (.reset p) := by
  refine ⟨?_, fun hv => if_pos hv, fun hv => ⟨if_pos hv, rfl⟩, h, by simp [Refractivity.reset], by simp [Refractivity.reset],
    by simp [Refractivity.reset], fun hv => .inr ⟨rfl, hv⟩⟩
  show IsRefractivity (if p.vacuum then 0 else p.nDefault)
  split
  · exact isRefractivity_zero
  · exact h

theorem Move.keeps_refractivityLaw {s t : State} (m : Move s t) (h : RefractivityLaw s) : RefractivityLaw t := by
  rw [refractivityLaw_iff] at h ⊢
  obtain ⟨law, default⟩ := h
  refine ⟨?_, m.params_eq ▸ default⟩
  cases m
  case gateEndRefr => exact law.takeGateEnd
  case refrArrive => rw [refrArrive_frame]; exact law.arrive
  case countArrival taken => exact law.countArrival
  case envWrite w => exact law.applyWrite w
  all_goals simpa using law

/-- A written default lies in its range. -/
theorem storeParam_nDefault {p : Params} (h : IsRefractivity p.nDefault) (q : Param) (v : Int) :
    IsRefractivity (storeParam p q v).1.nDefault := by
  by_cases hq : q = .nDefault
  · subst hq
    exact clampTo_bounds (lo := 0) (hi := 4000000) v (by decide)
  · have := getParam_storeParam_ne p v (q' := .nDefault) (Ne.symm hq) rfl
    exact (show (storeParam p q v).1.nDefault = p.nDefault from this) ▸ h

theorem Edit.keeps_refractivityLaw {s t : State} (e : Edit s t) (h : RefractivityLaw s) : RefractivityLaw t := by
  rw [refractivityLaw_iff] at h ⊢
  obtain ⟨law, default⟩ := h
  cases e
  case write q value valid closed agree =>
    rw [applyStore_params, applyStore_refr]
    exact ⟨law, storeParam_nDefault default q _⟩
  case insert => exact ⟨law, default⟩
  case remove => exact ⟨law, default⟩
  case restart => exact ⟨.reset default, default⟩

/-- Settles O56: the law is kept by each block's move, by each write, and by each reset. -/
theorem stepsKeepTheRefractivityLaw : Obligations.StepsKeepTheRefractivityLaw := by
  intro s t hs h
  refine step_keeps Move.keeps_refractivityLaw Edit.keeps_refractivityLaw (fun held s _ => ?_) hs h
  have default : IsRefractivity Params.default.nDefault := ⟨by decide, by decide⟩
  exact (refractivityLaw_iff _).mpr ⟨.reset default, default⟩

end Sys2Proof.Machine
end

section
/-! PROOFS. Every step keeps the law of the channels (R14, R16, R18, R191). -/

namespace Sys2Proof.Machine

/-! ## One channel -/

/-- The law of one channel: its count in range and aligned while TRACKING, its cause given exactly in LOST. -/
structure Channel.Ok (ch : Channel) : Prop where
  range : inCountRange ch.count = true
  aligned : ch.state = .tracking → ch.count % 1024 = ch.lastPhase
  cause : ch.state = .lost ↔ ch.cause ≠ .none

theorem inCountRange_iff (v : Int) : inCountRange v = true ↔ -549755813887 ≤ v ∧ v ≤ 549755813887 := by
  exact decide_eq_true_iff

/-- A count aligned to a phase lies in range and has the phase as its remainder (R13). -/
theorem alignCount_range {held : Int} {phase : Nat} (h : inCountRange held = true) :
    inCountRange (alignCount held phase) = true := by
  unfold alignCount
  simp only
  split
  · exact h
  · by_cases hup : ((phase : Int) - held) % 1024 < 512 <;> simp only [hup, if_true, if_false] <;> split
    case pos.isTrue near => exact near
    case neg.isTrue near => exact near
    all_goals
      rename_i far
      rw [inCountRange_iff] at h far ⊢
      omega

theorem alignCount_mod {held : Int} {phase : Nat} (h : phase < 1024) : alignCount held phase % 1024 = phase := by
  unfold alignCount
  simp only
  split
  · omega
  · split <;> split <;> omega

theorem Channel.Ok.lose {ch : Channel} (range : inCountRange ch.count = true) {cause : LossCause} (h : cause ≠ .none) :
    (ch.lose cause).Ok :=
  ⟨range, (nomatch ·), ⟨fun _ => h, fun _ => rfl⟩⟩

/-- A channel that is neither TRACKING nor LOST, without a cause, is lawful. -/
theorem Channel.Ok.still {ch : Channel} (range : inCountRange ch.count = true)
    (state : ch.state = .off ∨ ch.state = .settling) (cause : ch.cause = .none) : ch.Ok := by
  rcases state with h | h <;> exact ⟨range, by simp [h], by simp [h, cause]⟩

theorem Channel.Ok.causeNone {ch : Channel} (h : ch.Ok) (hs : ch.state ≠ .lost) : ch.cause = .none :=
  by_contra fun hc => hs (h.cause.mpr hc)

/-- The phase step and the last phase give the new phase, modulo a turn (R14). -/
theorem phaseStep_mod {phase last : Nat} : (last + phaseStep phase last) % 1024 = (phase : Int) % 1024 := by
  unfold phaseStep
  simp only
  split
  · omega
  · split <;> omega

theorem Channel.Ok.unwrap {ch : Channel} (h : ch.Ok) (ht : ch.state = .tracking) (limit : Int) {phase : Nat}
    (hp : phase < 1024) : (ch.unwrap limit phase).Ok := by
  have hstep := phaseStep_mod (phase := phase) (last := ch.lastPhase)
  have haligned := h.aligned ht
  unfold Channel.unwrap
  simp only
  split
  · exact .lose h.range (by decide)
  split
  · exact .lose (show inCountRange 549755813887 = true by decide) (by decide)
  split
  · exact .lose (show inCountRange (-549755813887) = true by decide) (by decide)
  next top bottom =>
    refine ⟨?_, fun _ => ?_, h.cause⟩
    · simp only [Config.countLimit] at top bottom
      exact (inCountRange_iff _).mpr ⟨not_lt.mp bottom, not_lt.mp top⟩
    · show (ch.count + phaseStep phase ch.lastPhase) % 1024 = phase
      omega

/-- A lawful channel stays lawful with any sample that the classification gives (R11 to R19). -/
theorem Channel.Ok.take {ch : Channel} (h : ch.Ok) (p : Params) (c : Fin 4) (pair : Int × Int) : (ch.take p c pair).Ok := by
  unfold Channel.take
  split
  · exact h
  next hs =>
    have cause := h.causeNone (by simp [hs])
    unfold settleSample
    split
    · exact .still h.range (.inr hs) cause
    next φ hφ =>
      split
      · exact ⟨alignCount_range h.range, fun _ => alignCount_mod (phase_lt_of_good hφ), by simp [cause]⟩
      · exact .still h.range (.inr hs) cause
  next ht =>
    unfold trackSample
    split
    next kind hkind =>
      split
      · exact .lose h.range (by rcases kind_of_bad hkind with rfl | rfl <;> decide)
      · exact ⟨h.range, h.aligned, h.cause⟩
    next φ hφ => exact h.unwrap ht _ (phase_lt_of_good hφ)
  next hl =>
    unfold lostSample
    split
    · exact h
    · split
      · exact h
      · exact .still h.range (.inr rfl) rfl

@[simp] theorem Channel.take_source (ch : Channel) (p : Params) (c : Fin 4) (pair : Int × Int) :
    (ch.take p c pair).source = ch.source := by
  unfold take
  split
  · rfl
  · unfold settleSample; split
    · rfl
    · split <;> rfl
  · unfold trackSample; split
    · split <;> rfl
    · unfold unwrap
      simp only
      split
      · rfl
      split
      · rfl
      split <;> rfl
  · unfold lostSample; split
    · rfl
    · split <;> rfl

theorem Channel.Ok.enable {ch : Channel} (h : ch.Ok) : ch.enable.Ok := by
  unfold Channel.enable
  split
  · exact .still (show inCountRange 0 = true by decide) (.inr rfl) rfl
  · exact h

theorem Channel.Ok.disable {ch : Channel} (h : ch.Ok) : ch.disable.Ok := by
  unfold Channel.disable
  split
  · exact h
  · exact .still h.range (.inl rfl) rfl

theorem Channel.ok_restart (ch : Channel) : ch.restart.Ok :=
  .still (show inCountRange 0 = true by decide) (.inr rfl) rfl

theorem Channel.Ok.changeSource {ch : Channel} (h : ch.Ok) (source : Source) : (ch.changeSource source).Ok := by
  unfold Channel.changeSource
  split
  · exact ⟨h.range, h.aligned, h.cause⟩
  · exact .still h.range (.inr rfl) rfl

@[simp] theorem Channel.enable_source (ch : Channel) : ch.enable.source = ch.source := by
  unfold enable; split <;> rfl

@[simp] theorem Channel.disable_source (ch : Channel) : ch.disable.source = ch.source := by
  unfold disable; split <;> rfl

@[simp] theorem Channel.restart_source (ch : Channel) : ch.restart.source = ch.source := rfl

@[simp] theorem Channel.changeSource_source (ch : Channel) (source : Source) :
    (ch.changeSource source).source = source := by
  unfold changeSource; split <;> rfl

theorem Channel.ok_reset : Channel.reset.Ok := .still (show inCountRange 0 = true by decide) (.inl rfl) rfl

/-! ## The four channels and the generator -/

theorem channelLaw_iff (s : State) : ChannelLaw s ↔
    (∀ c, (s.channels.get c).Ok) ∧ (s.gen.running = true ↔ ∃ c, (s.channels.get c).source = .generator) := by
  constructor
  · rintro ⟨range, aligned, cause, used⟩
    exact ⟨fun c => ⟨range c, aligned c, cause c⟩, used⟩
  · rintro ⟨ok, used⟩
    exact ⟨fun c => (ok c).range, fun c => (ok c).aligned, fun c => (ok c).cause, used⟩

theorem ChannelLaw.of_eq {s t : State} (h : ChannelLaw s) (channels : t.channels = s.channels)
    (running : t.gen.running = s.gen.running) : ChannelLaw t := by
  rw [channelLaw_iff] at h ⊢
  rw [channels, running]
  exact h

@[simp] theorem takeSet_get (p : Params) (port : Four (Int × Int)) (generator : Int × Int) (chs : Four Channel)
    (c : Fin 4) :
    (takeSet p port generator chs).get c =
      (chs.get c).take p c (selectPair (chs.get c).source (port.get c) generator) := by
  simp [takeSet]

@[simp] theorem Generator.arrive_running (p : Params) (g : Generator) : (g.arrive p).running = g.running := by
  unfold arrive
  split
  · unfold moved advancePhase beginPeriod
    simp only
    split <;> rfl
  · rfl

@[simp] theorem takeTestReport_running (s : State) : (takeTestReport s).gen.running = s.gen.running := by
  unfold takeTestReport countTestReport
  split
  · split
    · simp only
      split <;> rfl
    · rfl
  · rfl

/-- Channels that keep their sources keep the law where each of them is lawful. -/
theorem ChannelLaw.setChannels {s : State} (h : ChannelLaw s) {after : Four Channel} (ok : ∀ c, (after.get c).Ok)
    (sources : ∀ c, (after.get c).source = (s.channels.get c).source) : ChannelLaw (setChannels after s) := by
  rw [channelLaw_iff] at h ⊢
  refine ⟨by simpa using ok, ?_⟩
  simp only [setChannels_channels, setChannels_gen, sources]
  exact h.2

/-- One channel replaced, with its source kept. -/
theorem ChannelLaw.setOne {s : State} (h : ChannelLaw s) {c : Fin 4} {ch : Channel} (ok : ch.Ok)
    (source : ch.source = (s.channels.get c).source) : ChannelLaw (Machine.setChannels (s.channels.set c ch) s) := by
  have each := ((channelLaw_iff s).mp h).1
  refine h.setChannels (fun c' => ?_) fun c' => ?_ <;> rw [Four.get_set] <;> split
  · exact ok
  · exact each c'
  next hc => rw [source, hc]
  · rfl

theorem frontEnd_keeps_channelLaw {s : State} (h : ChannelLaw s) (values : List (BitVec 16)) :
    ChannelLaw (frontEnd values s) := by
  rw [channelLaw_iff] at h ⊢
  obtain ⟨ok, used⟩ := h
  rw [frontEnd_frame]
  refine ⟨fun c => ?_, ?_⟩
  · simpa using (ok c).take _ _ _
  · simpa using used

/-- A set of 1..15 names some channel. -/
theorem exists_named {set : Byte} (low : set.toNat ≠ 0) (high : set.toNat ≤ 15) : ∃ c : Fin 4, set.getLsbD c = true := by
  by_contra hnone
  simp only [not_exists, Bool.not_eq_true] at hnone
  have bits : ∀ i, i < 4 → set.toNat.testBit i = false := fun i hi => by
    simpa [BitVec.getLsbD] using hnone ⟨i, hi⟩
  refine low (Nat.eq_of_testBit_eq fun i => ?_)
  rw [Nat.zero_testBit]
  by_cases hi : i < 4
  · exact bits i hi
  · refine Nat.testBit_lt_two_pow (lt_of_lt_of_le (show set.toNat < 2 ^ 4 by omega) (Nat.pow_le_pow_right (by decide) ?_))
    omega

@[simp] theorem startChannels_get (set : Byte) (chs : Four Channel) (c : Fin 4) :
    (startChannels set chs).get c =
      if set.getLsbD c && (chs.get c).source == .input then (chs.get c).changeSource .generator else chs.get c := by
  simp [startChannels]

@[simp] theorem stopChannels_get (chs : Four Channel) (c : Fin 4) :
    (stopChannels chs).get c =
      if (chs.get c).source = .generator then (chs.get c).changeSource .input else chs.get c := by
  simp [stopChannels]

theorem testStart_keeps_channelLaw {s : State} (h : ChannelLaw s) {set : Byte} (low : set.toNat ≠ 0)
    (high : set.toNat ≤ 15) :
    ChannelLaw (setChannels (startChannels set s.channels)
      { s with gen := if s.gen.running then s.gen else .start s.params }) := by
  rw [channelLaw_iff] at h ⊢
  obtain ⟨ok, -⟩ := h
  refine ⟨fun c => ?_, iff_of_true ?_ ?_⟩
  · simp only [setChannels_channels, startChannels_get]
    split
    · exact (ok c).changeSource _
    · exact ok c
  · rw [setChannels_gen]
    simp only
    split
    · assumption
    · rfl
  · obtain ⟨c, hc⟩ := exists_named low high
    refine ⟨c, ?_⟩
    rw [setChannels_channels, startChannels_get]
    cases hsource : (s.channels.get c).source with
    | input => simp only [hc, beq_self_eq_true, Bool.and_true, if_true, Channel.changeSource_source]
    | generator => simpa using hsource

theorem testStop_keeps_channelLaw {s : State} (h : ChannelLaw s) :
    ChannelLaw (setChannels (stopChannels s.channels) { s with gen := { s.gen with running := false } }) := by
  rw [channelLaw_iff] at h ⊢
  obtain ⟨ok, -⟩ := h
  refine ⟨fun c => ?_, iff_of_false (by simp) ?_⟩
  · simp only [setChannels_channels, stopChannels_get]
    split
    · exact (ok c).changeSource _
    · exact ok c
  · rintro ⟨c, hc⟩
    simp only [setChannels_channels, stopChannels_get] at hc
    split at hc
    · rw [Channel.changeSource_source] at hc; cases hc
    · contradiction

theorem Move.keeps_channelLaw {s t : State} (m : Move s t) (h : ChannelLaw s) : ChannelLaw t := by
  have each := ((channelLaw_iff s).mp h).1
  cases m
  case frontEnd values => exact frontEnd_keeps_channelLaw h values
  case enable c => exact h.setOne (each c).enable (Channel.enable_source _)
  case disable c => exact h.setOne (each c).disable (Channel.disable_source _)
  case restartChannel c => exact h.setOne (Channel.ok_restart _) rfl
  case testStart set low high => exact testStart_keeps_channelLaw h low high
  case testStop => exact testStop_keeps_channelLaw h
  all_goals exact h.of_eq (by simp) (by simp)

theorem channelLaw_of_reset {s : State} (channels : s.channels = .fill .reset) (gen : s.gen = .reset) : ChannelLaw s := by
  rw [channelLaw_iff, channels, gen]
  refine ⟨fun c => by simpa using Channel.ok_reset, iff_of_false (by decide) ?_⟩
  rintro ⟨c, hc⟩
  rw [Four.get_fill] at hc
  cases hc

theorem Edit.keeps_channelLaw {s t : State} (e : Edit s t) (h : ChannelLaw s) : ChannelLaw t := by
  cases e
  case restart => exact channelLaw_of_reset rfl rfl
  all_goals exact h.of_eq (by simp [editTable]) (by simp [editTable])

/-- Settles O55: each sample, command and change of source keeps every channel lawful, and the generator runs with its first
user and stops with its last. -/
theorem stepsKeepTheChannelLaw : Obligations.StepsKeepTheChannelLaw := by
  intro s t hs h
  exact step_keeps Move.keeps_channelLaw Edit.keeps_channelLaw (fun _ _ _ => channelLaw_of_reset rfl rfl) hs h

end Sys2Proof.Machine
end

section
/-! PROOFS. Every step keeps the counters of every block in their ranges (R9, R12, R17, R29, R41, R72, R85, R89, R97, R156,
R164, R193, R196), and with them the parameters and the hold. -/

namespace Sys2Proof.Machine

/-! ## The counters, block by block -/

def MotionCounts (m : Motion) : Prop :=
  m.gateCounter < m.gateLength ∧
  (m.gateLength = 256 ∨ m.gateLength = 512 ∨ m.gateLength = 1024 ∨ m.gateLength = 2048) ∧
  ∀ j, (m.axes.get j).steadyCount ≤ 255

/-- The parameters that bound a counter. -/
def StoreCounts (p : Params) : Prop :=
  p.gateSel ≤ 3 ∧ p.settleSel ≤ 3 ∧ p.lossPersist ≤ 64 ∧ p.lockSettle ≤ 3 ∧ p.envStaleLimit ≤ 4095 ∧
  p.testPeriod ≤ 65535

def AxisCounts (axes : Four Axis) : Prop := ∀ j, (axes.get j).epoch ≤ 65535

def SlotCounts (slots : Four DatumSlot) : Prop := ∀ j, (slots.get j).age ≤ 65535

def GeneratorCounts (g : Generator) : Prop := g.psi ≤ 1023 ∧ g.advance ≤ 255 ∧ g.position ≤ 65535

def ScanCounts (sc : Scan) : Prop :=
  sc.matched ≤ 65535 ∧ sc.stray ≤ 65535 ∧ sc.double ≤ 65535 ∧ sc.outOfOrder ≤ 65535

def ChannelCounts (ch : Channel) : Prop := ch.settle < 32768 ∧ ch.badRun < 64 ∧ ch.lastPhase ≤ 1023

def RefrCounts (r : Refractivity) : Prop := r.age ≤ 268369920 ∧ (r.env = .fresh → r.age < 268369920)

/-- The law of the counters, gathered by block. -/
structure Counts (s : State) : Prop where
  motion : MotionCounts s.motion
  store : StoreCounts s.params
  axes : AxisCounts s.axes
  slots : SlotCounts s.slots
  hold : s.hold.age ≤ 65535
  gen : GeneratorCounts s.gen
  scan : ScanCounts s.scan
  channels : ∀ c, ChannelCounts (s.channels.get c)
  lock : s.lock.settle < 524288
  refr : RefrCounts s.refr

theorem counterLaw_iff (s : State) : CounterLaw s ↔ Counts s := by
  constructor
  · rintro ⟨gate, length, gateSel, steady, epoch, age, hold, psi, advance, matched, stray, double, outOfOrder,
      ⟨settleSel, lossPersist, lockSettle, staleLimit, period⟩, channels, lock, refrAge, refrFresh, position⟩
    exact ⟨⟨gate, length, steady⟩, ⟨gateSel, settleSel, lossPersist, lockSettle, staleLimit, period⟩, epoch, age, hold,
      ⟨psi, advance, position⟩, ⟨matched, stray, double, outOfOrder⟩, channels, lock, ⟨refrAge, refrFresh⟩⟩
  · rintro ⟨⟨gate, length, steady⟩, ⟨gateSel, settleSel, lossPersist, lockSettle, staleLimit, period⟩, epoch, age, hold,
      ⟨psi, advance, position⟩, ⟨matched, stray, double, outOfOrder⟩, channels, lock, ⟨refrAge, refrFresh⟩⟩
    exact ⟨gate, length, gateSel, steady, epoch, age, hold, psi, advance, matched, stray, double, outOfOrder,
      ⟨settleSel, lossPersist, lockSettle, staleLimit, period⟩, channels, lock, refrAge, refrFresh, position⟩

/-! ## Channels, lock and refractivity -/

theorem settleLength_le {p : Params} (h : StoreCounts p) : settleLength p ≤ 32768 := by
  obtain ⟨-, settleSel, -⟩ := h
  exact (Nat.pow_le_pow_right (by decide) (by omega)).trans (show 2 ^ 15 ≤ 32768 by decide)

theorem lockSettleLength_le {p : Params} (h : StoreCounts p) : lockSettleLength p ≤ 524288 := by
  obtain ⟨-, -, -, lockSettle, -⟩ := h
  exact (Nat.pow_le_pow_right (by decide) (by omega)).trans (show 2 ^ 19 ≤ 524288 by decide)

theorem Channel.unwrap_counts {ch : Channel} (h : ChannelCounts ch) (limit : Int) {phase : Nat} (hp : phase < 1024) :
    ChannelCounts (ch.unwrap limit phase) := by
  obtain ⟨settle, -, last⟩ := h
  unfold unwrap
  simp only
  split
  · exact ⟨Nat.succ_pos _, Nat.succ_pos _, last⟩
  split
  · exact ⟨Nat.succ_pos _, Nat.succ_pos _, Nat.le_of_lt_succ hp⟩
  split
  · exact ⟨Nat.succ_pos _, Nat.succ_pos _, Nat.le_of_lt_succ hp⟩
  · exact ⟨settle, Nat.succ_pos _, Nat.le_of_lt_succ hp⟩

theorem Channel.take_counts {ch : Channel} (h : ChannelCounts ch) {p : Params} (store : StoreCounts p) (c : Fin 4)
    (pair : Int × Int) : ChannelCounts (ch.take p c pair) := by
  have length := settleLength_le store
  obtain ⟨-, -, persist, -⟩ := store
  have ⟨settle, bad, last⟩ := h
  unfold take
  split
  · exact h
  · unfold settleSample
    split
    · exact ⟨Nat.succ_pos _, bad, last⟩
    next φ hφ =>
      split
      · exact ⟨Nat.succ_pos _, Nat.succ_pos _, Nat.le_of_lt_succ (phase_lt_of_good hφ)⟩
      · exact ⟨show ch.settle + 1 < 32768 by omega, bad, last⟩
  · unfold trackSample
    split
    · split
      · exact ⟨Nat.succ_pos _, Nat.succ_pos _, last⟩
      · exact ⟨settle, show ch.badRun + 1 < 64 by omega, last⟩
    next φ hφ => exact unwrap_counts h _ (phase_lt_of_good hφ)
  · unfold lostSample
    split
    · exact h
    · split
      · exact h
      · exact ⟨show 1 < 32768 by decide, bad, last⟩

theorem Channel.fresh_counts (ch : Channel) : ChannelCounts ch.fresh := ⟨Nat.succ_pos _, Nat.succ_pos _, Nat.zero_le _⟩

theorem Channel.enable_counts {ch : Channel} (h : ChannelCounts ch) : ChannelCounts ch.enable := by
  unfold enable
  split
  · exact fresh_counts ch
  · exact h

theorem Channel.disable_counts {ch : Channel} (h : ChannelCounts ch) : ChannelCounts ch.disable := by
  unfold disable
  split
  · exact h
  · exact ⟨Nat.succ_pos _, Nat.succ_pos _, h.2.2⟩

theorem Channel.changeSource_counts {ch : Channel} (h : ChannelCounts ch) (source : Source) :
    ChannelCounts (ch.changeSource source) := by
  unfold changeSource
  split
  · exact h
  · exact ⟨Nat.succ_pos _, Nat.succ_pos _, h.2.2⟩

theorem set_counts {chs : Four Channel} (h : ∀ c, ChannelCounts (chs.get c)) (c : Fin 4) {ch : Channel}
    (hch : ChannelCounts ch) (c' : Fin 4) : ChannelCounts ((chs.set c ch).get c') := by
  rw [Four.get_set]
  split
  · exact hch
  · exact h c'

theorem LockMonitor.arrive_counts {m : LockMonitor} (h : m.settle < 524288) {length : Nat} (hl : length ≤ 524288)
    (high : Bool) : (m.arrive length high).settle < 524288 := by
  unfold arrive
  split
  · split
    · exact Nat.succ_pos _
    · split
      · exact Nat.succ_pos _
      · show m.settle + 1 < 524288; omega
    · exact h
  · exact Nat.succ_pos _

theorem staleLimit_le {p : Params} (h : StoreCounts p) : staleLimit p ≤ 268369920 := by
  obtain ⟨-, -, -, -, limit, -⟩ := h
  unfold staleLimit; omega

theorem Refractivity.countAge_counts {r : Refractivity} (h : RefrCounts r) {limit : Nat} (hl : limit ≤ 268369920) :
    RefrCounts (r.countAge limit) := by
  obtain ⟨age, fresh⟩ := h
  unfold countAge
  split
  next hf =>
    have := fresh hf.1
    split
    · exact ⟨show r.age + 1 ≤ _ by omega, (nomatch ·)⟩
    · exact ⟨show r.age + 1 ≤ _ by omega, fun _ => show r.age + 1 < _ by omega⟩
  · exact ⟨age, fresh⟩

theorem formedRefr_counts {s : State} (h : RefrCounts s.refr) : RefrCounts (formedRefr s) := by
  have frame := refrConfigured_frame s
  obtain ⟨-, -, -, -, settled⟩ := Refractivity.settleUpdate_frame s.scanIsOpen s.params.envStepMax
    (trackerCount { s with refr := refrConfigured s }) (refrConfigured s)
  unfold RefrCounts formedRefr
  rcases settled with ⟨env, age⟩ | ⟨env, age⟩
  · simp only [env, age]
    rw [frame]
    exact h
  · simp only [age]
    exact ⟨Nat.zero_le _, fun _ => Nat.succ_pos _⟩

theorem takeGateEndRefr_counts {s : State} (h : RefrCounts s.refr) (store : StoreCounts s.params) :
    RefrCounts (takeGateEndRefr s).refr := by
  rcases takeGateEndRefr_refr s with ⟨he, -⟩ | ⟨-, he | he⟩ <;> rw [he]
  · exact h
  · exact formedRefr_counts h
  · exact Refractivity.countAge_counts (formedRefr_counts h) (staleLimit_le store)

theorem Refractivity.arrive_counts {r : Refractivity} (h : RefrCounts r) : RefrCounts r.arrive := by
  unfold arrive
  simp only
  split
  · exact h
  · split
    · exact ⟨Nat.zero_le _, fun _ => Nat.succ_pos _⟩
    · exact ⟨h.1, (nomatch ·)⟩

theorem applyWrite_counts {r : Refractivity} (h : RefrCounts r) (w : WriteClass) : RefrCounts (applyWrite w r) := by
  unfold applyWrite Refractivity.update Refractivity.malformed
  split
  · exact h
  · split
    · exact h
    · split <;> exact h
  · split <;> exact h

/-! ## Axes, slots and scan -/

theorem rearm_age {d : DatumSlot} (h : d.age ≤ 65535) : d.rearm.age ≤ 65535 := by
  unfold DatumSlot.rearm; split
  · exact Nat.zero_le _
  · exact h

theorem defer_age {d : DatumSlot} (h : d.age ≤ 65535) : d.defer.age ≤ 65535 := by
  unfold DatumSlot.defer; split
  · exact Nat.zero_le _
  · exact h

theorem SlotCounts.set {slots : Four DatumSlot} (h : SlotCounts slots) (j : Fin 4) {d : DatumSlot}
    (hd : d.age ≤ 65535) : SlotCounts (slots.set j d) := by
  intro i
  rw [Four.get_set]
  split
  · exact hd
  · exact h i

theorem ScanEffect.slotCounts {s t : State} (e : ScanEffect s t) (h : SlotCounts s.slots) : SlotCounts t.slots := by
  cases e with
  | kept scan slots => rw [slots]; exact h
  | ended d cause missed isOpen scan slots => rw [slots]; exact h.set _ (rearm_age (h _))

theorem ScanEffect.scanCounts {s t : State} (e : ScanEffect s t) (h : ScanCounts s.scan) : ScanCounts t.scan := by
  cases e with
  | kept scan slots => rw [scan]; exact h
  | ended d cause missed isOpen scan slots => rw [scan]; exact h

theorem SlotCounts.requestDatum {s : State} (h : SlotCounts s.slots) (j : Fin 4) (owner : Owner) (source : DatumSource)
    (edge : Edge) (preset : Int) (timeout : Nat) :
    SlotCounts (requestDatum s j owner source edge preset timeout).1.slots := by
  unfold Machine.requestDatum
  simp only
  split
  · exact h.set j (Nat.zero_le _)
  · exact h.set j (Nat.zero_le _)
  · exact h

theorem SlotCounts.cancelDatum {s : State} (h : SlotCounts s.slots) (j : Fin 4) (owner : Owner) :
    SlotCounts (cancelDatum s j owner).1.slots := by
  unfold Machine.cancelDatum
  split
  · exact h
  · split
    · exact h.set j (h j)
    · exact h

theorem SlotCounts.applyDatums {s : State} (h : SlotCounts s.slots) (chosen : Fin 4 → Bool) :
    SlotCounts (applyDatums chosen s).slots := by
  rw [applyDatums_frame]
  intro j
  simp only [Four.get_mapIdx]
  split
  · exact h j
  · split <;> exact h j

theorem countReport_age {d : DatumSlot} (h : d.age ≤ 65535) : d.countReport.age ≤ 65535 := by
  unfold DatumSlot.countReport
  split
  · split <;> exact satSucc_le _ _
  · exact h

theorem SlotCounts.takeDatumReport {s : State} (h : SlotCounts s.slots) : SlotCounts (takeDatumReport s).slots := by
  unfold Machine.takeDatumReport
  split
  · intro j
    simp only [ageSlots, raiseIf_slots, Four.get_mapIdx]
    exact countReport_age (SlotCounts.applyDatums (s := { s with due := { s.due with datum := false } }) h _ j)
  · exact h

theorem nextEpoch_le {e : Nat} (h : e ≤ 65535) : nextEpoch e ≤ 65535 := by
  unfold nextEpoch; split <;> omega

theorem AxisCounts.applyDatums {s : State} (h : AxisCounts s.axes) (chosen : Fin 4 → Bool) :
    AxisCounts (applyDatums chosen s).axes := by
  rw [applyDatums_frame]
  intro j
  simp only [Four.get_mapIdx]
  split
  · exact nextEpoch_le (h j)
  · exact h j

theorem AxisCounts.takeDatumReport {s : State} (h : AxisCounts s.axes) : AxisCounts (takeDatumReport s).axes := by
  unfold Machine.takeDatumReport
  split
  · simp only [ageSlots, raiseIf_axes]
    exact AxisCounts.applyDatums (s := { s with due := { s.due with datum := false } }) h _
  · exact h

theorem AxisCounts.setChannels {s : State} (h : AxisCounts s.axes) (after : Four Channel) :
    AxisCounts (setChannels after s).axes := by
  rw [setChannels_frame]
  intro j
  simp only [Four.get_mapIdx]
  split <;> exact h j

theorem ScanCounts.matchLine {s : State} (h : ScanCounts s.scan) (q : LineQuery) : ScanCounts (matchLine q s).1.scan := by
  obtain ⟨matched, stray, double, outOfOrder⟩ := h
  have tallied : ∀ r, ScanCounts (s.scan.tally r) := by
    intro r
    cases r
    · exact ⟨satSucc_le _ _, stray, double, outOfOrder⟩
    · exact ⟨matched, stray, satSucc_le _ _, outOfOrder⟩
    · exact ⟨matched, satSucc_le _ _, double, outOfOrder⟩
    · exact ⟨matched, stray, double, satSucc_le _ _⟩
  unfold Machine.matchLine lookupLine
  split
  · exact ⟨matched, stray, double, outOfOrder⟩
  · split <;> exact tallied _

theorem ScanCounts.takeScanReport {s : State} (h : ScanCounts s.scan) : ScanCounts (takeScanReport s).scan := by
  unfold Machine.takeScanReport testScan
  split
  · exact h
  · split
    · exact h
    · split
      · split <;> exact h
      · split
        · exact (endScan_effect _ _).scanCounts h
        · exact h
      · exact h
      · exact h

theorem SlotCounts.takeScanReport {s : State} (h : SlotCounts s.slots) : SlotCounts (takeScanReport s).slots := by
  unfold Machine.takeScanReport testScan
  split
  · exact h
  · split
    · exact h
    · split
      · split <;> exact h
      · split
        · exact (endScan_effect _ _).slotCounts h
        · exact h
      · exact h
      · exact h

/-! ## Motion, hold and generator -/

theorem selectedLength_cases {p : Params} (h : StoreCounts p) :
    selectedLength p = 256 ∨ selectedLength p = 512 ∨ selectedLength p = 1024 ∨ selectedLength p = 2048 := by
  obtain ⟨gateSel, -⟩ := h
  unfold selectedLength
  interval_cases p.gateSel <;> simp

theorem measured_steadyCount (s : State) (j : Fin 4) : ((measuredAxes s).get j).steadyCount ≤ 255 := by
  simp only [measuredAxes, Four.get_mapIdx, axisGateEnd]
  split
  · exact Nat.zero_le _
  · simp only [measureAxis, steadyTest]
    split
    · exact Nat.zero_le _
    · exact Nat.zero_le _
    · split
      · exact satSucc_le _ _
      · exact Nat.zero_le _

theorem MotionCounts.countArrival {s : State} (h : MotionCounts s.motion) (store : StoreCounts s.params) :
    MotionCounts (countArrival s).motion := by
  obtain ⟨gate, length, steady⟩ := h
  have selected := selectedLength_cases store
  unfold Machine.countArrival
  split
  · simp only [closeGate, Motion.adoptLength]
    split
    · exact ⟨show 0 < s.motion.gateLength by omega, length, measured_steadyCount s⟩
    · refine ⟨show 0 < selectedLength s.params by omega, selected, fun j => ?_⟩
      simp [AxisMotion.newLength]
  · rw [ageEnvironment_frame]
    exact ⟨show s.motion.gateCounter + 1 < s.motion.gateLength by omega, length, steady⟩

theorem MotionCounts.forgetSums {m : Motion} (h : MotionCounts m) (which : Fin 4 → Bool) :
    MotionCounts (forgetSums which m) := by
  obtain ⟨gate, length, steady⟩ := h
  refine ⟨gate, length, fun j => ?_⟩
  simp only [Machine.forgetSums, Four.get_mapIdx]
  split <;> exact steady j

theorem takeHoldReport_age {s : State} (h : s.hold.age ≤ 65535) : (takeHoldReport s).hold.age ≤ 65535 := by
  unfold takeHoldReport countHoldReport
  split
  · split
    · simp only
      split <;> exact satSucc_le _ _
    · exact h
  · exact h

theorem holdCompare_age {s : State} (h : s.hold.age ≤ 65535) : (holdCompare s).hold.age ≤ 65535 := by
  unfold holdCompare
  split <;> split <;> first | exact h | exact Nat.zero_le _

theorem handToMain_age {r : Record} {s : State} (h : s.hold.age ≤ 65535) : (handToMain r s).hold.age ≤ 65535 := by
  unfold handToMain
  split
  · exact holdCompare_age h
  · exact h

theorem endMainRead_age {complete : Bool} {s : State} (h : s.hold.age ≤ 65535) :
    (endMainRead complete s).hold.age ≤ 65535 := by
  unfold endMainRead
  split
  · split
    · exact holdCompare_age h
    · exact h
  · exact h

theorem deliverHold_age {flag : Bool} {h : Hold} (ha : h.age ≤ 65535) : (deliverHold flag h).age ≤ 65535 := by
  unfold deliverHold
  split
  · split <;> exact ha
  · split <;> exact ha
  · exact ha
  · exact ha

theorem Generator.arrive_counts {g : Generator} (h : GeneratorCounts g) {p : Params} (store : StoreCounts p) :
    GeneratorCounts (g.arrive p) := by
  obtain ⟨psi, advance, position⟩ := h
  obtain ⟨-, -, -, -, -, period⟩ := store
  unfold arrive
  split
  · refine ⟨?_, ?_, ?_⟩
    · simp only [moved, advancePhase]
      omega
    · simp only [moved, advancePhase, beginPeriod]
      split <;> exact advance
    · simp only [moved, advancePhase, beginPeriod]
      split
      · show 0 + 1 ≤ 65535; decide
      · show g.position + 1 ≤ 65535; omega
  · exact ⟨psi, advance, position⟩

theorem Generator.start_counts (p : Params) : GeneratorCounts (.start p) :=
  ⟨Nat.zero_le _, Nat.zero_le _, Nat.zero_le _⟩

theorem takeTestReport_counts {s : State} (h : GeneratorCounts s.gen) : GeneratorCounts (takeTestReport s).gen := by
  obtain ⟨psi, advance, position⟩ := h
  unfold takeTestReport countTestReport
  split
  · split
    · simp only
      split
      · exact ⟨psi, Nat.zero_le _, Nat.zero_le _⟩
      · exact ⟨psi, satSucc_le _ _, position⟩
    · exact ⟨psi, advance, position⟩
  · exact ⟨psi, advance, position⟩

/-! ## Steps -/

theorem takeCaptureReport_age {s : State} (h : s.hold.age ≤ 65535) : (takeCaptureReport s).hold.age ≤ 65535 :=
  takeCaptureReport_keeps (P := fun s => s.hold.age ≤ 65535) (fun _ _ _ h => h)
    (fun q s h => by rw [matchLine_frame]; exact h) (fun _ _ => handToMain_age) (fun r s h => by simpa using h) h

theorem takeCaptureReport_scanCounts {s : State} (h : ScanCounts s.scan) : ScanCounts (takeCaptureReport s).scan :=
  takeCaptureReport_keeps (P := fun s => ScanCounts s.scan) (fun _ _ _ h => h) (fun q s h => h.matchLine q)
    (fun r s h => by simpa using h) (fun r s h => by simpa using h) h

/-- The channels replaced by lawful ones. -/
theorem Counts.setChannels {s : State} (h : Counts s) {after : Four Channel} (ha : ∀ c, ChannelCounts (after.get c)) :
    Counts (setChannels after s) where
  motion := by simpa using h.motion
  store := by simpa using h.store
  axes := h.axes.setChannels after
  slots := (setChannels_effect after s).slotCounts h.slots
  hold := by simpa using h.hold
  gen := by simpa using h.gen
  scan := (setChannels_effect after s).scanCounts h.scan
  channels := by simpa using ha
  lock := by simpa using h.lock
  refr := by simpa using h.refr

theorem Counts.withGenerator {s : State} (h : Counts s) {g : Generator} (hg : GeneratorCounts g) :
    Counts { s with gen := g } :=
  { h with gen := hg }

theorem Counts.frontEnd {s : State} (h : Counts s) (values : List (BitVec 16)) : Counts (frontEnd values s) := by
  have moved : Counts { s with gen := s.gen.arrive s.params } := h.withGenerator (Generator.arrive_counts h.gen h.store)
  have flagged : Counts (raiseIf (someLost s.channels
      (takeSet s.params (.ofFn (pairOf values)) (s.gen.pair s.params) s.channels)) .channelLost
      { s with gen := s.gen.arrive s.params }) := by
    rw [raiseIf_frame]; exact { moved with }
  exact flagged.setChannels fun c => by simpa using (s.channels.get c).take_counts (h.channels c) h.store _ _

theorem Move.keeps_counts {s t : State} (m : Move s t) (h : Counts s) : Counts t := by
  have ⟨motion, store, axes, slots, hold, gen, scan, channels, lock, refr⟩ := h
  cases m
  case quiet => exact ⟨motion, store, axes, slots, hold, gen, scan, channels, lock, refr⟩
  case gateEndRefr =>
    have := takeGateEndRefr_counts refr store
    constructor <;> simpa
  case captureReport =>
    have := takeCaptureReport_age hold
    have := takeCaptureReport_scanCounts scan
    constructor <;> simpa
  case scanReport =>
    have := slots.takeScanReport
    have := scan.takeScanReport
    constructor <;> simpa
  case datumReport =>
    have := axes.takeDatumReport
    have := slots.takeDatumReport
    constructor <;> simpa
  case holdReport =>
    have := takeHoldReport_age hold
    constructor <;> simpa
  case testReport =>
    have := takeTestReport_counts gen
    constructor <;> simpa
  case refrArrive =>
    have : RefrCounts (Machine.refrArrive s).refr := by rw [refrArrive_frame]; exact Refractivity.arrive_counts refr
    constructor <;> simpa
  case frontEnd values => exact h.frontEnd values
  case lockArrive high =>
    have : (Machine.lockArrive high s).lock.settle < 524288 := by
      rw [lockArrive_frame]; exact LockMonitor.arrive_counts lock (lockSettleLength_le store) high
    have := (lockArrive_effect high s).slotCounts slots
    have := (lockArrive_effect high s).scanCounts scan
    constructor <;> simpa
  case countArrival taken =>
    have := motion.countArrival store
    have : RefrCounts (Machine.countArrival s).refr := by
      unfold Machine.countArrival
      split
      · exact refr
      · rw [ageEnvironment_frame]; exact Refractivity.countAge_counts refr (staleLimit_le store)
    constructor <;> simpa
  case mark input edge =>
    have : AxisCounts (takeMark input edge s).axes := axes.applyDatums _
    have : SlotCounts (takeMark input edge s).slots := slots.applyDatums _
    constructor <;> simpa
  case request j owner source edge preset timeout =>
    have := slots.requestDatum j owner source edge preset timeout
    constructor <;> simpa
  case cancel j owner =>
    have := slots.cancelDatum j owner
    constructor <;> simpa
  case deliverHold flag => exact { h with hold := deliverHold_age hold }
  case endMainRead complete =>
    have := endMainRead_age (complete := complete) hold
    constructor <;> simpa
  case enable c => exact h.setChannels (set_counts channels c (Channel.enable_counts (channels c)))
  case disable c => exact h.setChannels (set_counts channels c (Channel.disable_counts (channels c)))
  case restartChannel c => exact h.setChannels (set_counts channels c (Channel.fresh_counts (s.channels.get c)))
  case testStart set low high =>
    have started : Counts { s with gen := if s.gen.running then s.gen else .start s.params } := by
      refine h.withGenerator ?_
      split
      · exact gen
      · exact Generator.start_counts _
    refine started.setChannels fun c => ?_
    rw [startChannels_get]
    split
    · exact Channel.changeSource_counts (channels c) _
    · exact channels c
  case testStop =>
    refine (h.withGenerator (g := { s.gen with running := false }) gen).setChannels fun c => ?_
    rw [stopChannels_get]
    split
    · exact Channel.changeSource_counts (channels c) _
    · exact channels c
  case openScan d free =>
    exact { h with
      slots := slots.set _ (defer_age (slots _))
      scan := ⟨Nat.zero_le _, Nat.zero_le _, Nat.zero_le _, Nat.zero_le _⟩ }
  case endScan cause =>
    have := (endScan_effect cause s).slotCounts slots
    have := (endScan_effect cause s).scanCounts scan
    constructor <;> simpa
  case clearScan aborted => exact { h with scan := scan }
  case envWrite w => exact { h with refr := applyWrite_counts refr w }
  all_goals constructor <;> simpa

/-- Among the parameters that bound counters a write leaves each in its range. -/
theorem storeParam_counts {p : Params} (h : StoreCounts p) {q : Param} {v : Int} (hv : validCode q v = true) :
    StoreCounts (storeParam p q v).1 := by
  have stored : ∀ (q' : Param) (hi : Int), storesPlainly q' = true → (∀ w, (paramKind q').Holds w → w ≤ hi) →
      getParam p q' ≤ hi → getParam (storeParam p q v).1 q' ≤ hi := by
    intro q' hi hplain top before
    by_cases he : q' = q
    · subst he
      rw [storeParam_plain p v hplain]
      have holds := clampParam_holds hv
      exact (getParam_putParam_same p holds).symm ▸ top _ holds
    · rw [getParam_storeParam_ne p v he hplain]; exact before
  obtain ⟨gateSel, settleSel, lossPersist, lockSettle, staleLimit, period⟩ := h
  have four : ∀ w, (ParamKind.codes (codesBelow 4)).Holds w → w ≤ 3 := fun w hw => by
    have := codesBelow_holds hw; omega
  refine ⟨?_, ?_, ?_, ?_, ?_, ?_⟩
  · exact Int.ofNat_le.mp (stored .gateSel 3 rfl four (Int.ofNat_le.mpr gateSel))
  · exact Int.ofNat_le.mp (stored .settleSel 3 rfl four (Int.ofNat_le.mpr settleSel))
  · exact Int.ofNat_le.mp (stored .lossPersist 64 rfl (fun _ hw => hw.2) (Int.ofNat_le.mpr lossPersist))
  · exact Int.ofNat_le.mp (stored .lockSettle 3 rfl four (Int.ofNat_le.mpr lockSettle))
  · exact Int.ofNat_le.mp (stored .envStaleLimit 4095 rfl (fun _ hw => hw.2) (Int.ofNat_le.mpr staleLimit))
  · exact Int.ofNat_le.mp (stored .testPeriod 65535 rfl (fun _ hw => hw.2) (Int.ofNat_le.mpr period))

/-! ## What a write does to axes, slots and motion -/

theorem unreference_get (which : Fin 4 → Bool) (axes : Four Axis) (j : Fin 4) :
    (unreference which axes).get j =
      if which j && (axes.get j).state != .undefined then { axes.get j with state := .unreferenced } else axes.get j := by
  simp [unreference]

theorem AxisCounts.unreference {axes : Four Axis} (h : AxisCounts axes) (which : Fin 4 → Bool) :
    AxisCounts (unreference which axes) := by
  intro j
  rw [unreference_get]
  split <;> exact h j

theorem Counts.weightChanged {s : State} (h : Counts s) (j : Fin 4) : Counts (weightChanged j s) := by
  unfold Machine.weightChanged
  simp only
  rw [raiseIf_frame]
  refine { h with motion := h.motion.forgetSums _, axes := fun i => ?_, slots := ?_ }
  · simp only [Four.get_set]
    split
    next hi => exact hi ▸ h.axes i
    next => exact h.axes i
  · simp only
    split
    · exact h.slots.set j (h.slots j)
    · exact h.slots

theorem Counts.applyStore {s : State} (h : Counts s) {p : Params} (hp : StoreCounts p) (q : Param) :
    Counts (applyStore q p s) := by
  have stored : Counts { s with params := p } := { h with store := hp }
  cases q
  case weight j c =>
    simp only [Machine.applyStore]
    split
    · exact stored.weightChanged j
    · exact stored
  case lambda =>
    simp only [Machine.applyStore]
    split
    · exact { stored with axes := h.axes.unreference _, motion := h.motion.forgetSums _ }
    · exact stored
  case pathK c =>
    simp only [Machine.applyStore]
    split
    · exact { stored with axes := h.axes.unreference _, motion := h.motion.forgetSums _ }
    · exact stored
  case deadPath c =>
    simp only [Machine.applyStore]
    split
    · exact { stored with axes := h.axes.unreference _ }
    · exact stored
  case lockOverride =>
    simp only [Machine.applyStore]
    split
    · exact (Move.endScan _).keeps_counts stored
    · exact stored
  case highWater =>
    simp only [Machine.applyStore]
    rw [holdCompare_frame]
    exact { stored with hold := holdCompare_age h.hold }
  case lowWater =>
    simp only [Machine.applyStore]
    rw [holdCompare_frame]
    exact { stored with hold := holdCompare_age h.hold }
  all_goals exact stored

theorem counts_afterReset {p : Params} (h : StoreCounts p) (table : List Entry) : Counts (.afterReset p table) where
  motion := by
    have := selectedLength_cases h
    exact ⟨show 0 < selectedLength p by omega, this, fun j => by simp [State.afterReset, Motion.reset, AxisMotion.reset]⟩
  store := h
  axes := fun j => by simp [State.afterReset, Axis.reset]
  slots := fun j => by simp [State.afterReset, DatumSlot.reset]
  hold := Nat.zero_le _
  gen := ⟨Nat.zero_le _, Nat.zero_le _, Nat.zero_le _⟩
  scan := ⟨Nat.zero_le _, Nat.zero_le _, Nat.zero_le _, Nat.zero_le _⟩
  channels := fun c => by simp [State.afterReset, Channel.reset, ChannelCounts]
  lock := Nat.succ_pos _
  refr := ⟨Nat.zero_le _, fun _ => Nat.succ_pos _⟩

theorem Edit.keeps_counts {s t : State} (e : Edit s t) (h : Counts s) : Counts t := by
  cases e
  case write q value valid closed agree => exact h.applyStore (storeParam_counts h.store valid) q
  case insert => exact { h with }
  case remove => exact { h with }
  case restart => exact { counts_afterReset h.store (s.matcher.table.map Entry.clear) with }

theorem storeCounts_default : StoreCounts .default := ⟨by decide, by decide, by decide, by decide, by decide, by decide⟩

theorem counts_resetPart (held : Bool) (s : State) : Counts (resetPart held s) :=
  { counts_afterReset storeCounts_default [] with }

/-- Settles O59: parameters by the store's own law, the hold by its comparison with the marks, counters block by block. -/
theorem stepsKeepParametersHoldAndCounters : Obligations.StepsKeepParametersHoldAndCounters := by
  refine ⟨fun s t => step_keeps_paramLaw, fun s t => step_keeps_holdLaw, fun s t hs h => ?_⟩
  rw [counterLaw_iff] at hs ⊢
  exact step_keeps Move.keeps_counts Edit.keeps_counts (fun held s _ => counts_resetPart held s) hs h

end Sys2Proof.Machine
end

section
/-! PROOFS. Every step keeps the laws of the axes and the datum slots (R44, R68, R71, R80). -/

namespace Sys2Proof.Machine

/-! ## The law of the datums -/

theorem DatumLaw.of_eq {s t : State} (h : DatumLaw s) (axes : t.axes = s.axes) (params : t.params = s.params)
    (channels : t.channels = s.channels) : DatumLaw t := by
  unfold DatumLaw
  rw [axes, params, channels]
  exact h

/-- A break that moves a weighted channel away from the datum makes the axis BROKEN in the same instant (R70, R71). -/
theorem DatumLaw.setChannels {s s' : State} (h : DatumLaw s) (after : Four Channel) (params : s'.params = s.params)
    (axes : s'.axes = s.axes) (channels : s'.channels = s.channels) : DatumLaw (setChannels after s') := by
  have h : DatumLaw s' := h.of_eq axes params channels
  rw [setChannels_frame]
  intro j c referenced hw
  simp only [Four.get_mapIdx] at referenced ⊢
  split at referenced
  next => cases referenced
  next unbroken =>
    rw [if_neg unbroken]
    have before := h j c referenced hw
    by_contra moved
    refine unbroken ?_
    simp only [axisBreaks, Bool.and_eq_true, List.any_eq_true, beq_iff_eq, bne_iff_ne]
    exact ⟨referenced, c, mem_indices c, ⟨hw, before ▸ moved⟩, moved⟩

theorem DatumLaw.applyDatums {s : State} (h : DatumLaw s) (chosen : Fin 4 → Bool) : DatumLaw (applyDatums chosen s) := by
  rw [applyDatums_frame]
  intro j c referenced hw
  simp only [Four.get_mapIdx] at referenced ⊢
  split
  next => simp [referenceAxis]
  next undone =>
    rw [if_neg undone] at referenced
    exact h j c referenced hw

theorem DatumLaw.takeDatumReport {s : State} (h : DatumLaw s) : DatumLaw (takeDatumReport s) := by
  unfold Machine.takeDatumReport
  split
  · have noted : DatumLaw { s with due := { s.due with datum := false } } := h
    exact (noted.applyDatums fun j => (s.slots.get j).immediateArmed).of_eq (by simp [ageSlots]) (by simp [ageSlots])
      (by simp [ageSlots])
  · exact h

theorem Move.keeps_datumLaw {s t : State} (m : Move s t) (h : DatumLaw s) : DatumLaw t := by
  cases m
  case datumReport => exact h.takeDatumReport
  case mark input edge => exact h.applyDatums _
  case frontEnd values =>
    unfold Machine.frontEnd
    exact h.setChannels _ (by simp) (by simp) (by simp)
  case enable c => exact h.setChannels _ rfl rfl rfl
  case disable c => exact h.setChannels _ rfl rfl rfl
  case restartChannel c => exact h.setChannels _ rfl rfl rfl
  case testStart set low high => exact h.setChannels _ rfl rfl rfl
  case testStop => exact h.setChannels _ rfl rfl rfl
  all_goals exact h.of_eq (by simp) (by simp) (by simp)

theorem storeParam_weight (p : Params) {q : Param} (v : Int) (h : ∀ j c, q ≠ .weight j c) :
    (storeParam p q v).1.weight = p.weight := by
  cases q
  case weight j c => exact absurd rfl (h j c)
  case ampMax c => rw [storeParam_ampMax]; rfl
  case lineEdge input => cases input <;> rfl
  case lineLatency input => cases input <;> rfl
  all_goals rfl

theorem storeParam_trackerCh (p : Params) {q : Param} (v : Int) (h : q ≠ .trackerCh) :
    (storeParam p q v).1.trackerCh = p.trackerCh := by
  cases q
  case trackerCh => exact absurd rfl h
  case ampMax c => rw [storeParam_ampMax]; rfl
  case lineEdge input => cases input <;> rfl
  case lineLatency input => cases input <;> rfl
  all_goals rfl

/-- A weight as a write stores it. -/
theorem storeParam_weight_self (p : Params) (j c : Fin 4) (v : Int) :
    storeParam p (.weight j c) v =
      ({ p with weight := p.weight.set j ((p.weight.get j).set c (clampTo (-131072) 131071 v)) },
        clampTo (-131072) 131071 v != v) := rfl

/-- A weight that is written as it is held leaves the weights as they are. -/
theorem weight_unchanged {p : Params} {j c : Fin 4} {v : Int}
    (h : (getParam (storeParam p (.weight j c) v).1 (.weight j c) != getParam p (.weight j c)) = false) :
    (storeParam p (.weight j c) v).1.weight = p.weight := by
  rw [storeParam_weight_self] at h ⊢
  simp only [getParam, Four.get_set_same, bne_eq_false_iff_eq] at h
  simp only [h, Four.set_get_self]

/-- How the axes stand after a write: each in the state it was in, or UNREFERENCED from a defined one; a changed weight
apart. -/
theorem applyStore_axis {q : Param} (hq : ∀ j c, q ≠ .weight j c) (p : Params) (s : State) (j : Fin 4) :
    ((applyStore q p s).axes.get j) = s.axes.get j ∨
      ((s.axes.get j).state ≠ .undefined ∧
        (applyStore q p s).axes.get j = { s.axes.get j with state := .unreferenced }) := by
  have unreferenced : ∀ which, (unreference which s.axes).get j = s.axes.get j ∨
      ((s.axes.get j).state ≠ .undefined ∧
        (unreference which s.axes).get j = { s.axes.get j with state := .unreferenced }) := by
    intro which
    rw [unreference_get]
    split
    next hu => exact .inr ⟨bne_iff_ne.mp (Bool.and_eq_true _ _ ▸ hu).2, rfl⟩
    next => exact .inl rfl
  cases q
  case weight j' c => exact absurd rfl (hq j' c)
  case lambda => simp only [applyStore]; split; exacts [unreferenced _, .inl rfl]
  case pathK c => simp only [applyStore]; split; exacts [unreferenced _, .inl rfl]
  case deadPath c => simp only [applyStore]; split; exacts [unreferenced _, .inl rfl]
  case lockOverride => simp only [applyStore]; split; exacts [.inl (by simp [unlockNotice]), .inl rfl]
  case highWater => exact .inl (by simp [applyStore])
  case lowWater => exact .inl (by simp [applyStore])
  all_goals exact .inl rfl

theorem weighted_congr {p p' : Params} (h : p'.weight = p.weight) (j c : Fin 4) : weighted p' j c = weighted p j c := by
  unfold weighted; rw [h]

theorem weighted_set_ne {p : Params} {j i c k : Fin 4} {v : Int} (h : i ≠ j) :
    weighted { p with weight := p.weight.set j ((p.weight.get j).set c v) } i k = weighted p i k := by
  unfold weighted
  rw [Four.get_set_ne _ _ h]

/-- A changed weight leaves its axis without a reference (R68). -/
theorem weightChanged_axis (j : Fin 4) (s : State) (i : Fin 4) :
    (weightChanged j s).axes.get i =
      if i = j then
        { s.axes.get j with state := if s.params.allZero j then AxisState.undefined else AxisState.unreferenced }
      else s.axes.get i := by
  unfold weightChanged
  simp only [raiseIf_axes, Four.get_set]

theorem Edit.keeps_datumLaw {s t : State} (e : Edit s t) (h : DatumLaw s) : DatumLaw t := by
  cases e
  case write q value valid closed agree =>
    by_cases hq : ∃ j c, q = .weight j c
    · obtain ⟨j, c, rfl⟩ := hq
      simp only [applyStore]
      split
      next changed =>
        intro i k referenced hw
        rw [weightChanged_axis] at referenced ⊢
        split at referenced
        next => split at referenced <;> cases referenced
        next hi =>
          rw [if_neg hi]
          rw [weightChanged_frame] at hw ⊢
          exact h i k referenced ((weighted_set_ne hi).symm.trans hw)
      next same =>
        intro i k referenced hw
        rw [weighted_congr (weight_unchanged (by simpa using same))] at hw
        exact h i k referenced hw
    · have other : ∀ j c, q ≠ .weight j c := fun j c he => hq ⟨j, c, he⟩
      intro i k referenced hw
      rw [applyStore_params, weighted_congr (storeParam_weight _ _ other)] at hw
      rw [applyStore_channels]
      rcases applyStore_axis other _ s i with same | ⟨-, moved⟩
      · rw [same] at referenced ⊢
        exact h i k referenced hw
      · rw [moved] at referenced
        cases referenced
  case insert => exact h
  case remove => exact h
  case restart =>
    intro j c referenced
    simp only [restartPart, State.afterReset, Four.get_ofFn, Axis.reset] at referenced
    split at referenced <;> cases referenced

theorem datumLaw_resetPart (held : Bool) (s : State) : DatumLaw (resetPart held s) := by
  intro j c referenced
  simp only [resetPart, State.reset, State.afterReset, Four.get_ofFn, Axis.reset] at referenced
  split at referenced <;> cases referenced

/-! ## The law of the axes and their slots -/

/-- What the law asks of one slot, given whether a scan is open on its axis and the state of its axis. -/
structure DatumSlot.Ok (openOn : Bool) (axis : AxisState) (d : DatumSlot) : Prop where
  armed : d.state = .armed → openOn = false
  deferred : d.state = .deferred → openOn = true
  defined : d.state ≠ .idle → axis ≠ .undefined
  owner : d.state = .idle ↔ d.owner = none

/-- The law of the axes, slot by slot. -/
structure AxesOk (s : State) : Prop where
  weights : ∀ j, (s.axes.get j).state = .undefined ↔ ∀ c, weighted s.params j c = false
  slots : ∀ j, (s.slots.get j).Ok (s.scanOpenOn j) (s.axes.get j).state
  tracker : ∀ j c, s.params.trackerCh = some c → weighted s.params j c = false

theorem axisLaw_iff (s : State) : AxisLaw s ↔ AxesOk s := by
  constructor
  · rintro ⟨weights, armed, deferred, defined, owner, tracker⟩
    exact ⟨weights, fun j => ⟨armed j, deferred j, defined j, owner j⟩, tracker⟩
  · rintro ⟨weights, slots, tracker⟩
    exact ⟨weights, fun j => (slots j).armed, fun j => (slots j).deferred, fun j => (slots j).defined,
      fun j => (slots j).owner, tracker⟩

namespace DatumSlot

/-- A slot whose request has ended is lawful on any axis. -/
theorem ok_finish (openOn : Bool) (axis : AxisState) (d : DatumSlot) (outcome : DatumOutcome) :
    (d.finish outcome).Ok openOn axis :=
  ⟨(nomatch ·), (nomatch ·), fun h => absurd rfl h, iff_of_true rfl rfl⟩

theorem Ok.of_idle {d : DatumSlot} {openOn openOn' : Bool} {axis axis' : AxisState} (h : d.Ok openOn axis)
    (idle : d.state = .idle) : d.Ok openOn' axis' :=
  ⟨fun ha => by simp [idle] at ha, fun hd => by simp [idle] at hd, fun hn => absurd idle hn, h.owner⟩

theorem Ok.axis {d : DatumSlot} {openOn : Bool} {axis axis' : AxisState} (h : d.Ok openOn axis)
    (same : axis' = .undefined → axis = .undefined) : d.Ok openOn axis' :=
  ⟨h.armed, h.deferred, fun hn hu => h.defined hn (same hu), h.owner⟩

/-- The slot of the axis of an open scan is lawful after its end (R80). -/
theorem Ok.rearm {d : DatumSlot} {axis : AxisState} (h : d.Ok true axis) : d.rearm.Ok false axis := by
  unfold DatumSlot.rearm
  split
  next hd =>
    exact ⟨fun _ => rfl, (nomatch ·), fun _ => h.defined (by simp [hd]), iff_of_false (nofun)
      fun ho => by simp [h.owner.mpr ho] at hd⟩
  next hn => exact ⟨fun _ => rfl, fun hd => absurd hd hn, h.defined, h.owner⟩

/-- The slot of an axis on which a scan opens is lawful (R80). -/
theorem Ok.defer {d : DatumSlot} {axis : AxisState} (h : d.Ok false axis) : d.defer.Ok true axis := by
  unfold DatumSlot.defer
  split
  next ha =>
    exact ⟨(nomatch ·), fun _ => rfl, fun _ => h.defined (by simp [ha]), iff_of_false (nofun)
      fun ho => by simp [h.owner.mpr ho] at ha⟩
  next hn => exact ⟨fun ha => absurd ha hn, fun _ => rfl, h.defined, h.owner⟩

theorem Ok.countReport {d : DatumSlot} {openOn : Bool} {axis : AxisState} (h : d.Ok openOn axis) :
    d.countReport.Ok openOn axis := by
  unfold DatumSlot.countReport
  split
  · split
    · exact ok_finish _ _ _ _
    · exact ⟨h.armed, h.deferred, h.defined, h.owner⟩
  · exact h

end DatumSlot

/-- With a scan open on an axis, no scan is open on another. -/
theorem State.scanOpenOn_of_open {s : State} {d : Descriptor} (h : s.openScan = some d) (j : Fin 4) :
    s.scanOpenOn j = (d.axis == j) := by
  unfold State.scanOpenOn
  rw [h]
  simp

theorem State.scanOpenOn_of_closed {s : State} (h : s.scanIsOpen = false) (j : Fin 4) : s.scanOpenOn j = false := by
  simp [State.scanOpenOn, State.openScan, h]

theorem AxesOk.of_eq {s t : State} (h : AxesOk s) (params : t.params = s.params)
    (undefined : ∀ j, (t.axes.get j).state = .undefined ↔ (s.axes.get j).state = .undefined)
    (slots : ∀ j, (t.slots.get j).Ok (t.scanOpenOn j) (s.axes.get j).state) : AxesOk t where
  weights j := by rw [undefined j, params]; exact h.weights j
  slots j := (slots j).axis (undefined j).mp
  tracker j c := by rw [params]; exact h.tracker j c

/-- An operation that ends the open scan or leaves it keeps the law where it leaves the parameters and which axes are
defined. -/
theorem AxesOk.effect {s t : State} (h : AxesOk s) (e : ScanEffect s t) (params : t.params = s.params)
    (undefined : ∀ j, (t.axes.get j).state = .undefined ↔ (s.axes.get j).state = .undefined) : AxesOk t := by
  refine h.of_eq params undefined fun j => ?_
  rcases e.scanOpenOn with ⟨slots, same⟩ | ⟨d, isOpen, slots, closed⟩
  · rw [slots, same]; exact h.slots j
  · have before := h.slots j
    rw [State.scanOpenOn_of_open isOpen] at before
    rw [slots, closed, Four.get_set]
    split
    next hj =>
      subst hj
      exact DatumSlot.Ok.rearm (by simpa using before)
    next hj => rwa [beq_eq_false_iff_ne.mpr (Ne.symm hj)] at before

theorem setChannels_undefined (after : Four Channel) (s : State) (j : Fin 4) :
    ((setChannels after s).axes.get j).state = .undefined ↔ (s.axes.get j).state = .undefined := by
  rw [setChannels_frame]
  simp only [Four.get_mapIdx]
  split
  next broken =>
    have : (s.axes.get j).state = .referenced := by
      simp only [axisBreaks, Bool.and_eq_true, beq_iff_eq] at broken
      exact broken.1
    simp [this]
  next => exact Iff.rfl

theorem AxesOk.setChannels {s s' : State} (h : AxesOk s) (after : Four Channel) (params : s'.params = s.params)
    (axes : s'.axes = s.axes) (slots : s'.slots = s.slots) (scan : s'.scan = s.scan) :
    AxesOk (setChannels after s') :=
  h.effect ((setChannels_effect after s').of_eq scan slots) (by simpa using params)
    fun j => axes ▸ setChannels_undefined after s' j

/-- Datums are applied only to slots that hold a request, whose axes are therefore defined. -/
theorem AxesOk.applyDatums {s : State} (h : AxesOk s) {chosen : Fin 4 → Bool}
    (busy : ∀ j, chosen j = true → (s.slots.get j).state ≠ .idle) : AxesOk (applyDatums chosen s) := by
  have frame := applyDatums_frame chosen s
  refine h.of_eq (by simp) (fun j => ?_) fun j => ?_
  · rw [frame]
    simp only [Four.get_mapIdx]
    split
    next done =>
      have defined := (h.slots j).defined (busy j (Bool.and_eq_true _ _ ▸ done).1)
      exact iff_of_false nofun defined
    next => exact Iff.rfl
  · rw [State.scanOpenOn_of_scan (applyDatums_scan chosen s), frame]
    simp only [Four.get_mapIdx]
    split
    · exact DatumSlot.ok_finish _ _ _ _
    · split
      · exact DatumSlot.ok_finish _ _ _ _
      · exact h.slots j

theorem AxesOk.takeDatumReport {s : State} (h : AxesOk s) : AxesOk (takeDatumReport s) := by
  unfold Machine.takeDatumReport
  split
  next =>
    have noted : AxesOk { s with due := { s.due with datum := false } } := ⟨h.weights, h.slots, h.tracker⟩
    have applied := noted.applyDatums (chosen := fun j => (s.slots.get j).immediateArmed) fun j hj hi => by
      simp only [DatumSlot.immediateArmed, Bool.and_eq_true, beq_iff_eq] at hj
      have := hj.1.symm.trans hi
      cases this
    refine applied.of_eq (raiseIf_params ..) (fun j => by rw [show (ageSlots _).axes = _ from raiseIf_axes ..]) fun j => ?_
    rw [State.scanOpenOn_of_scan (show (ageSlots _).scan = _ from raiseIf_scan ..)]
    simp only [ageSlots, raiseIf_slots, Four.get_mapIdx]
    exact (applied.slots j).countReport
  next => exact h

/-- A datum request is held only for a defined axis, DEFERRED exactly while a scan is open on it (R75). -/
theorem AxesOk.requestDatum {s : State} (h : AxesOk s) (j : Fin 4) (owner : Owner) (source : DatumSource) (edge : Edge)
    (preset : Int) (timeout : Nat) : AxesOk (requestDatum s j owner source edge preset timeout).1 := by
  have decided : ∀ (d : RequestDecision), decideRequest s j owner = d →
      ((d = .armed ∨ d = .deferred) → (s.axes.get j).state ≠ .undefined) ∧
      (d = .armed → s.scanOpenOn j = false) ∧ (d = .deferred → s.scanOpenOn j = true) := by
    rintro d rfl
    unfold decideRequest
    split
    · exact ⟨by simp, by simp, by simp⟩
    next defined =>
      split
      · exact ⟨by simp, by simp, by simp⟩
      split
      · exact ⟨by simp, by simp, by simp⟩
      split
      next isOpen => exact ⟨fun _ => defined, by simp, fun _ => isOpen⟩
      next closed => exact ⟨fun _ => defined, fun _ => by simpa using closed, by simp⟩
  refine h.of_eq (by simp) (by simp) fun i => ?_
  rw [State.scanOpenOn_of_scan (requestDatum_scan s j owner source edge preset timeout)]
  unfold Machine.requestDatum
  simp only
  split
  next armed =>
    obtain ⟨defined, closed, -⟩ := decided _ armed
    simp only [Four.get_set]
    split
    next hi =>
      subst hi
      exact ⟨fun _ => closed rfl, (nomatch ·), fun _ => defined (.inl rfl), iff_of_false nofun nofun⟩
    next => exact h.slots i
  next deferred =>
    obtain ⟨defined, -, isOpen⟩ := decided _ deferred
    simp only [Four.get_set]
    split
    next hi =>
      subst hi
      exact ⟨(nomatch ·), fun _ => isOpen rfl, fun _ => defined (.inr rfl), iff_of_false nofun nofun⟩
    next => exact h.slots i
  next => exact h.slots i

theorem AxesOk.cancelDatum {s : State} (h : AxesOk s) (j : Fin 4) (owner : Owner) : AxesOk (cancelDatum s j owner).1 := by
  refine h.of_eq (by simp) (by simp) fun i => ?_
  rw [State.scanOpenOn_of_scan (cancelDatum_scan s j owner)]
  unfold Machine.cancelDatum
  split
  · exact h.slots i
  · split
    · simp only [Four.get_set]
      split
      · exact DatumSlot.ok_finish _ _ _ _
      · exact h.slots i
    · exact h.slots i

theorem matchLine_scan (q : LineQuery) (s : State) :
    (matchLine q s).1.scan.state = s.scan.state ∧ (matchLine q s).1.scan.descriptor = s.scan.descriptor := by
  unfold matchLine lookupLine
  split
  · exact ⟨rfl, rfl⟩
  · split
    · exact ⟨rfl, rfl⟩
    next pos e _ => cases entryResult s.scanDirection s.matcher.lastMatched e <;> exact ⟨rfl, rfl⟩

theorem takeCaptureReport_scan (s : State) :
    (takeCaptureReport s).scan.state = s.scan.state ∧ (takeCaptureReport s).scan.descriptor = s.scan.descriptor :=
  takeCaptureReport_keeps (P := fun t => t.scan.state = s.scan.state ∧ t.scan.descriptor = s.scan.descriptor)
    (fun _ _ _ h => h)
    (fun q t h => ⟨(matchLine_scan q t).1.trans h.1, (matchLine_scan q t).2.trans h.2⟩)
    (fun r t h => by simpa using h) (fun r t h => by simpa using h) ⟨rfl, rfl⟩

/-- Whether a scan is open on an axis is read off the state and the descriptor of the scan. -/
theorem State.scanOpenOn_congr {s t : State} (state : t.scan.state = s.scan.state)
    (descriptor : t.scan.descriptor = s.scan.descriptor) (j : Fin 4) : t.scanOpenOn j = s.scanOpenOn j := by
  unfold State.scanOpenOn State.openScan State.scanIsOpen
  rw [state, descriptor]

theorem AxesOk.takeScanReport {s : State} (h : AxesOk s) : AxesOk (takeScanReport s) := by
  unfold Machine.takeScanReport testScan
  split
  · exact h
  next r _ =>
    have noted : AxesOk { s with due := { s.due with scan := none } } := ⟨h.weights, h.slots, h.tracker⟩
    split
    · exact noted
    next d hd =>
      split
      next armed =>
        split
        · refine noted.of_eq rfl (fun _ => Iff.rfl) fun j => ?_
          have same : ∀ sc, sc = { s.scan with state := .active, gateAtActive := some r.gate } →
              ({ s with due := { s.due with scan := none }, scan := sc } : State).scanOpenOn j = s.scanOpenOn j := by
            rintro _ rfl
            have armed : s.scan.state = .armed := armed
            simp [State.scanOpenOn, State.openScan, State.scanIsOpen, armed]
          rw [same _ rfl]
          exact h.slots j
        · exact noted
      next =>
        split
        · exact noted.effect (endScan_effect _ _) (by simp) (by simp)
        · exact noted
      · exact noted
      · exact noted

theorem scan_idle_of_free {d : Descriptor} {s : State} (h : scanRefusal d s = none) : s.scan.state = .idle := by
  unfold scanRefusal at h
  split at h
  · cases h
  next hi => exact not_not.mp hi

theorem AxesOk.openScan {s : State} (h : AxesOk s) {d : Descriptor} (free : scanRefusal d s = none) :
    AxesOk (openScanWith d s) := by
  have idle := scan_idle_of_free free
  have closed : s.scanIsOpen = false := by simp [State.scanIsOpen, idle]
  refine h.of_eq rfl (fun _ => Iff.rfl) fun j => ?_
  have before := h.slots j
  rw [State.scanOpenOn_of_closed closed] at before
  rw [State.scanOpenOn_of_open (s := openScanWith d s) (d := d) rfl]
  show ((s.slots.set d.axis (s.slots.get d.axis).defer).get j).Ok _ _
  rw [Four.get_set]
  split
  next hj =>
    subst hj
    rw [beq_self_eq_true]
    exact before.defer
  next hj =>
    rw [beq_eq_false_iff_ne.mpr (Ne.symm hj)]
    exact before

theorem Move.keeps_axesOk {s t : State} (m : Move s t) (h : AxesOk s) : AxesOk t := by
  cases m
  case captureReport =>
    refine h.of_eq (by simp) (by simp) fun j => ?_
    rw [State.scanOpenOn_congr (takeCaptureReport_scan s).1 (takeCaptureReport_scan s).2, takeCaptureReport_slots]
    exact h.slots j
  case scanReport => exact h.takeScanReport
  case datumReport => exact h.takeDatumReport
  case mark input edge =>
    refine h.applyDatums fun j hj hi => ?_
    simp only [DatumSlot.matchesMark, Bool.and_eq_true, beq_iff_eq] at hj
    have := hj.1.1.symm.trans hi
    cases this
  case request j owner source edge preset timeout => exact h.requestDatum j owner source edge preset timeout
  case cancel j owner => exact h.cancelDatum j owner
  case frontEnd values =>
    exact h.setChannels _ (by simp) (by simp) (by simp) (by simp)
  case enable c => exact h.setChannels _ rfl rfl rfl rfl
  case disable c => exact h.setChannels _ rfl rfl rfl rfl
  case restartChannel c => exact h.setChannels _ rfl rfl rfl rfl
  case testStart set low high => exact h.setChannels _ rfl rfl rfl rfl
  case testStop => exact h.setChannels _ rfl rfl rfl rfl
  case lockArrive high => exact h.effect (lockArrive_effect high s) (by simp) (by simp)
  case endScan cause => exact h.effect (endScan_effect cause s) (by simp) (by simp)
  case openScan d free => exact h.openScan free
  case clearScan aborted =>
    refine h.of_eq rfl (fun _ => Iff.rfl) fun j => ?_
    have closed : s.scanIsOpen = false := by simp [State.scanIsOpen, aborted]
    have before := h.slots j
    rwa [State.scanOpenOn_of_closed closed, ← State.scanOpenOn_of_closed (s := { s with scan := { s.scan with state := .idle } }) rfl j]
      at before
  all_goals exact h.effect (.kept (by simp) (by simp)) (by simp) (by simp)

/-! ## Edits -/

theorem allZero_iff (p : Params) (j : Fin 4) : p.allZero j = true ↔ ∀ c, weighted p j c = false := by
  simp only [Params.allZero, List.all_eq_true, beq_iff_eq, weighted, bne_eq_false_iff_eq]
  exact ⟨fun h c => h c (mem_indices c), fun h c _ => h c⟩

/-- A changed weight makes its axis UNDEFINED or UNREFERENCED by its weights, and ends a request of an axis made UNDEFINED;
no slot is DEFERRED, as no scan is open (R68). -/
theorem AxesOk.weightChanged {s : State} (h : AxesOk s) (closed : s.scanIsOpen = false) {p : Params} (j : Fin 4)
    (others : ∀ i c, i ≠ j → weighted p i c = weighted s.params i c)
    (tracker : ∀ i c, p.trackerCh = some c → weighted p i c = false) :
    AxesOk (weightChanged j { s with params := p }) where
  weights i := by
    rw [weightChanged_axis, weightChanged_frame]
    split
    next hi =>
      subst hi
      show (if p.allZero i then AxisState.undefined else .unreferenced) = .undefined ↔ ∀ c, weighted p i c = false
      rw [← allZero_iff]
      split
      next hz => exact iff_of_true rfl hz
      next hz => exact iff_of_false nofun hz
    next hi =>
      simp only [others i _ hi]
      exact h.weights i
  slots i := by
    have before := h.slots i
    rw [State.scanOpenOn_of_closed closed] at before
    have closed' : (Machine.weightChanged j { s with params := p }).scanIsOpen = false := by
      rw [weightChanged_frame]; exact closed
    rw [State.scanOpenOn_of_closed closed', weightChanged_axis]
    simp only [Machine.weightChanged, raiseIf_slots]
    by_cases hi : i = j
    · subst hi
      rw [if_pos rfl]
      cases hz : p.allZero i with
      | false => exact before.axis (by simp)
      | true =>
        by_cases armed : (s.slots.get i).state = .armed
        · simp only [armed, beq_self_eq_true, Bool.and_self, if_true, Four.get_set_same]
          exact DatumSlot.ok_finish _ _ _ _
        · simp only [armed, Bool.true_and, beq_iff_eq, if_true, if_false]
          refine before.of_idle ?_
          cases hs : (s.slots.get i).state with
          | idle => rfl
          | deferred => cases before.deferred hs
          | armed => exact absurd hs armed
    · rw [if_neg hi]
      split
      · rw [Four.get_set_ne _ _ hi]; exact before
      · exact before
  tracker i c := by rw [weightChanged_frame]; exact tracker i c

theorem memberOfValue_tracker {p : Params} {v : Int} {c : Fin 4} (agree : paramConflict p .trackerCh v = false)
    (hc : memberOfValue v = some c) (j : Fin 4) : weighted p j c = false := by
  simp only [paramConflict, hc, List.any_eq_false] at agree
  simpa using agree j (mem_indices j)

/-- A weight write that does not conflict leaves weight 0 on the tracker channel (R44, R67). -/
theorem weighted_tracker {p : Params} {i c j k : Fin 4} {v : Int} (agree : paramConflict p (.weight i c) v = false)
    (before : ∀ j c, p.trackerCh = some c → weighted p j c = false) (hk : p.trackerCh = some k) :
    weighted (storeParam p (.weight i c) v).1 j k = false := by
  rw [storeParam_weight_self]
  by_cases hj : j = i
  · subst hj
    by_cases hc : k = c
    · subst hc
      have hkind : clampParam (.weight j k) v = clampTo (-131072) 131071 v := rfl
      simp only [paramConflict, hk, beq_self_eq_true, Bool.and_true, bne_eq_false_iff_eq, hkind] at agree
      simp [weighted, agree]
    · have : weighted p j k = false := before j k hk
      simpa [weighted, Four.get_set_ne _ _ hc] using this
  · rw [weighted_set_ne hj]
    exact before j k hk

theorem applyStore_effect {q : Param} (hq : ∀ j c, q ≠ .weight j c) (p : Params) (s : State) :
    ScanEffect s (applyStore q p s) := by
  cases q
  case weight j c => exact absurd rfl (hq j c)
  case lockOverride =>
    simp only [applyStore, unlockNotice]
    split
    · exact (endScan_effect _ _).of_eq rfl rfl
    · exact .kept rfl rfl
  case lambda => simp only [applyStore]; split <;> exact .kept rfl rfl
  case pathK c => simp only [applyStore]; split <;> exact .kept rfl rfl
  case deadPath c => simp only [applyStore]; split <;> exact .kept rfl rfl
  case highWater => exact .kept (by simp [applyStore]) (by simp [applyStore])
  case lowWater => exact .kept (by simp [applyStore]) (by simp [applyStore])
  all_goals exact .kept rfl rfl

theorem AxesOk.withParams {s : State} (h : AxesOk s) {p : Params} (weight : p.weight = s.params.weight)
    (tracker : ∀ j c, p.trackerCh = some c → weighted s.params j c = false) : AxesOk { s with params := p } where
  weights j := by simp only [weighted_congr weight]; exact h.weights j
  slots := h.slots
  tracker j c hc := by rw [weighted_congr weight]; exact tracker j c hc

theorem axesOk_afterReset {p : Params} (tracker : ∀ j c, p.trackerCh = some c → weighted p j c = false)
    (table : List Entry) : AxesOk (.afterReset p table) where
  weights j := by
    show ((Four.ofFn fun j => Axis.reset (p.allZero j)).get j).state = .undefined ↔ ∀ c, weighted p j c = false
    rw [Four.get_ofFn, ← allZero_iff, Axis.reset]
    split
    next hz => exact iff_of_true rfl hz
    next hz => exact iff_of_false nofun hz
  slots j := by
    show ((Four.fill DatumSlot.reset).get j).Ok _ _
    rw [Four.get_fill]
    exact ⟨(nomatch ·), (nomatch ·), fun h => absurd rfl h, iff_of_true rfl rfl⟩
  tracker := tracker

theorem Edit.keeps_axesOk {s t : State} (e : Edit s t) (h : AxesOk s) : AxesOk t := by
  cases e
  case write q value valid closed agree =>
    by_cases hq : ∃ j c, q = .weight j c
    · obtain ⟨j, c, rfl⟩ := hq
      have scanClosed : s.scanIsOpen = false := closed
      have tracker : ∀ i k, (storeParam s.params (.weight j c) (paramField (.weight j c) value)).1.trackerCh = some k →
          weighted (storeParam s.params (.weight j c) (paramField (.weight j c) value)).1 i k = false :=
        fun i k hk => weighted_tracker agree h.tracker hk
      simp only [applyStore]
      split
      next => exact h.weightChanged scanClosed j (fun i k hi => weighted_set_ne hi) tracker
      next same => exact h.withParams (weight_unchanged (by simpa using same)) h.tracker
    · have other : ∀ j c, q ≠ .weight j c := fun j c he => hq ⟨j, c, he⟩
      have stored : AxesOk { s with params := (storeParam s.params q (paramField q value)).1 } := by
        refine h.withParams (storeParam_weight _ _ other) fun j c hc => ?_
        by_cases ht : q = .trackerCh
        · subst ht
          have hv : clampParam .trackerCh (paramField .trackerCh value) = paramField .trackerCh value := rfl
          exact memberOfValue_tracker agree (hv ▸ hc) j
        · rw [storeParam_trackerCh _ _ ht] at hc
          exact h.tracker j c hc
      refine stored.effect ((applyStore_effect other _ s).of_eq rfl rfl) (by simp) fun j => ?_
      rcases applyStore_axis other _ s j with same | ⟨defined, moved⟩
      · rw [same]
      · rw [moved]; exact iff_of_false nofun defined
  case insert => exact ⟨h.weights, h.slots, h.tracker⟩
  case remove => exact ⟨h.weights, h.slots, h.tracker⟩
  case restart =>
    have reset := axesOk_afterReset h.tracker (s.matcher.table.map Entry.clear)
    exact ⟨reset.weights, reset.slots, reset.tracker⟩

theorem axesOk_resetPart (held : Bool) (s : State) : AxesOk (resetPart held s) := by
  have reset := axesOk_afterReset (p := .default) (fun _ _ h => nomatch h) []
  exact ⟨reset.weights, reset.slots, reset.tracker⟩

/-- Settles O57: breaks and datums keep the law of the datums; requests, scans and weight writes that of axes and slots. -/
theorem stepsKeepTheAxisLaws : Obligations.StepsKeepTheAxisLaws := by
  refine ⟨fun s t hs h => ?_, fun s t hs h => ?_⟩
  · exact step_keeps Move.keeps_datumLaw Edit.keeps_datumLaw (fun held s _ => datumLaw_resetPart held s) hs h
  · rw [axisLaw_iff] at hs ⊢
    exact step_keeps Move.keeps_axesOk Edit.keeps_axesOk (fun held s _ => axesOk_resetPart held s) hs h

end Sys2Proof.Machine
end

section
/-! PROOFS. Every step keeps the laws of rings, capture slots and sequence numbers, and of the graduation table (R108, R111,
R114, R123, R166, R169). -/

namespace Sys2Proof.Machine

/-! ## The sequence numbers in custody -/

/-- Where the sequence numbers stand: the numbers in each ring, those in flight with the gates they await, the next one; with
the lost counts, the gate in progress, and the gate of the report that the Capture Unit has still to take. -/
structure Custody where
  main : List Word32
  exc : List Word32
  mainLost : Nat
  excLost : Nat
  flying : List (Word32 × Word32)
  next : Word32
  gate : Word32
  due : Option Word32

def State.custody (s : State) : Custody :=
  { main := s.main.records.map fun r => r.seq
    exc := s.exc.records.map fun r => r.seq
    mainLost := s.main.lost
    excLost := s.exc.lost
    flying := s.capture.inFlight.map fun c => (c.seq, c.gate)
    next := s.capture.nextSeq
    gate := s.motion.gateNumber
    due := s.due.capture.map fun r => r.gate }

/-- The law of the store, of custody (R108, R166, R169). -/
structure Custody.Bounded (v : Custody) : Prop where
  main : v.main.length ≤ 512
  exc : v.exc.length ≤ 128
  flying : v.flying.length ≤ 8
  distinct : (v.main ++ v.exc).Nodup
  mainLost : v.mainLost ≤ 65535
  excLost : v.excLost ≤ 65535

/-- The law of the awaited gate, of custody (R111). -/
structure Custody.Awaited (v : Custody) : Prop where
  due : ∀ g, v.due = some g → g + 1 = v.gate
  flying : ∀ c, c ∈ v.flying → c.2 = v.gate ∨ (v.due.isSome = true ∧ c.2 + 1 = v.gate)

/-- The law of the sequence numbers, of custody (R108, R114, R166). -/
structure Custody.Ordered (v : Custody) : Prop where
  main : v.main.Pairwise fun a b => a.toNat < b.toNat
  exc : v.exc.Pairwise fun a b => a.toNat < b.toNat
  flying : v.flying.Pairwise fun a b => a.1.toNat < b.1.toNat ∧ (a.2 = v.gate → b.2 = v.gate)
  behind : ∀ q, q ∈ v.main ∨ q ∈ v.exc → q.toNat < v.next.toNat ∧ ∀ c, c ∈ v.flying → q.toNat < c.1.toNat
  above : ∀ c, c ∈ v.flying → c.1.toNat < v.next.toNat

theorem storeLaw_iff (s : State) : StoreLaw s ↔ s.custody.Bounded := by
  constructor
  · rintro ⟨main, exc, flying, distinct, mainLost, excLost⟩
    exact ⟨by simpa [State.custody], by simpa [State.custody], by simpa [State.custody],
      by rw [List.map_append] at distinct; exact distinct, mainLost, excLost⟩
  · rintro ⟨main, exc, flying, distinct, mainLost, excLost⟩
    exact ⟨by simpa [State.custody] using main, by simpa [State.custody] using exc,
      by simpa [State.custody] using flying, by rw [List.map_append]; exact distinct, mainLost, excLost⟩

theorem awaitedGateLaw_iff (s : State) : AwaitedGateLaw s ↔ s.custody.Awaited := by
  constructor
  · rintro ⟨due, flying⟩
    refine ⟨fun g hg => ?_, fun c hc => ?_⟩
    · obtain ⟨r, hr, rfl⟩ := Option.map_eq_some_iff.mp hg
      exact due r hr
    · obtain ⟨q, hq, rfl⟩ := List.mem_map.mp hc
      simpa [State.custody] using flying q hq
  · rintro ⟨due, flying⟩
    refine ⟨fun r hr => due r.gate (by simp [State.custody, hr]), fun q hq => ?_⟩
    simpa [State.custody] using flying (q.seq, q.gate) (List.mem_map_of_mem hq)

theorem sequenceLaw_iff (s : State) : SequenceLaw s ↔ s.custody.Ordered := by
  constructor
  · rintro ⟨main, exc, flying, behind, above⟩
    refine ⟨List.pairwise_map.mpr main, List.pairwise_map.mpr exc, List.pairwise_map.mpr flying, fun q hq => ?_,
      fun c hc => ?_⟩
    · obtain ⟨r, hr, rfl⟩ : ∃ r, (r ∈ s.main.records ∨ r ∈ s.exc.records) ∧ r.seq = q := by
        rcases hq with hq | hq <;> obtain ⟨r, hr, rfl⟩ := List.mem_map.mp hq
        exacts [⟨r, .inl hr, rfl⟩, ⟨r, .inr hr, rfl⟩]
      refine ⟨(behind r hr).1, fun c hc => ?_⟩
      obtain ⟨d, hd, rfl⟩ := List.mem_map.mp hc
      exact (behind r hr).2 d hd
    · obtain ⟨d, hd, rfl⟩ := List.mem_map.mp hc
      exact above d hd
  · rintro ⟨main, exc, flying, behind, above⟩
    refine ⟨(List.pairwise_map (f := Record.seq)).mp main, (List.pairwise_map (f := Record.seq)).mp exc,
      List.pairwise_map.mp flying, fun r hr => ?_,
      fun q hq => above (q.seq, q.gate) (List.mem_map_of_mem hq)⟩
    have held := behind r.seq (hr.imp (fun h => List.mem_map_of_mem h) fun h => List.mem_map_of_mem h)
    exact ⟨held.1, fun q hq => held.2 (q.seq, q.gate) (List.mem_map_of_mem hq)⟩

theorem State.custody_congr {s t : State} (main : t.main.records = s.main.records) (mainLost : t.main.lost = s.main.lost)
    (exc : t.exc.records = s.exc.records) (excLost : t.exc.lost = s.exc.lost) (capture : t.capture = s.capture)
    (gate : t.motion.gateNumber = s.motion.gateNumber) (due : t.due.capture = s.due.capture) :
    t.custody = s.custody := by
  unfold State.custody
  rw [main, mainLost, exc, excLost, capture, gate, due]

/-! ## The acceptance of captures -/

/-- An acceptance spends the next number, and takes a FREE slot or charges the main ring (R108, R111). -/
def Custody.accept (v : Custody) : Custody :=
  if v.flying.length < 8 then { v with next := v.next + 1, flying := v.flying ++ [(v.next, v.gate)] }
  else { v with next := v.next + 1, mainLost := satSucc 65535 v.mainLost }

theorem acceptCapture_custody (kind : CaptureKind) (latch : Latch) (s : State) :
    (acceptCapture kind latch s).custody = s.custody.accept := by
  by_cases free : s.capture.inFlight.length < 8
  · rw [acceptCapture_free free]
    simp [Custody.accept, State.custody, free]
  · rw [acceptCapture_full (Nat.le_of_not_lt free)]
    simp [Custody.accept, State.custody, free, raise]

theorem Custody.accept_next (v : Custody) : v.accept.next = v.next + 1 := by
  unfold accept; split <;> rfl

theorem Custody.Bounded.accept {v : Custody} (h : v.Bounded) : v.accept.Bounded := by
  unfold Custody.accept
  split
  next free => exact { h with flying := by simpa using free }
  next => exact { h with mainLost := satSucc_le _ _ }

theorem Custody.Awaited.accept {v : Custody} (h : v.Awaited) : v.accept.Awaited := by
  unfold Custody.accept
  split
  · refine ⟨h.due, fun c hc => ?_⟩
    rcases List.mem_append.mp hc with old | new
    · exact h.flying c old
    · rw [List.mem_singleton.mp new]; exact .inl rfl
  · exact ⟨h.due, h.flying⟩

/-- Without a wrap of the next number a capture accepted stands above all and behind none that awaits a later gate. -/
theorem Custody.Ordered.accept {v : Custody} (h : v.Ordered) (room : v.next.toNat + 1 < 2 ^ 32) : v.accept.Ordered := by
  have next : (v.next + 1).toNat = v.next.toNat + 1 := by
    rw [BitVec.toNat_add]; exact Nat.mod_eq_of_lt room
  have behind : ∀ q, q ∈ v.main ∨ q ∈ v.exc → q.toNat < (v.next + 1).toNat :=
    fun q hq => next ▸ Nat.lt_succ_of_lt (h.behind q hq).1
  have above : ∀ c, c ∈ v.flying → c.1.toNat < (v.next + 1).toNat := fun c hc => next ▸ Nat.lt_succ_of_lt (h.above c hc)
  unfold Custody.accept
  split
  · refine ⟨h.main, h.exc, List.pairwise_append.mpr ⟨h.flying, List.pairwise_singleton _ _, ?_⟩, fun q hq => ?_,
      fun c hc => ?_⟩
    · intro a ha b hb
      rw [List.mem_singleton.mp hb]
      exact ⟨h.above a ha, fun _ => rfl⟩
    · refine ⟨behind q hq, fun c hc => ?_⟩
      rcases List.mem_append.mp hc with old | new
      · exact (h.behind q hq).2 c old
      · rw [List.mem_singleton.mp new]; exact (h.behind q hq).1
    · rcases List.mem_append.mp hc with old | new
      · exact above c old
      · rw [List.mem_singleton.mp new]
        show v.next.toNat < (v.next + 1).toNat
        omega
  · exact ⟨h.main, h.exc, h.flying, fun q hq => ⟨behind q hq, (h.behind q hq).2⟩, above⟩

/-- `t` holds the records and captures of `s` after at most `n` acceptances. -/
def Accepts (n : Nat) (s t : State) : Prop := ∃ k, k ≤ n ∧ t.custody = Custody.accept^[k] s.custody

theorem Accepts.none {n : Nat} {s t : State} (h : t.custody = s.custody) : Accepts n s t := ⟨0, Nat.zero_le _, h⟩

theorem Accepts.after {n : Nat} {s s' t : State} (h : Accepts n s' t) (first : s'.custody = s.custody) : Accepts n s t := by
  obtain ⟨k, hk, h⟩ := h
  exact ⟨k, hk, by rw [h, first]⟩

theorem Accepts.before {n : Nat} {s t t' : State} (h : Accepts n s t') (last : t.custody = t'.custody) : Accepts n s t := by
  obtain ⟨k, hk, h⟩ := h
  exact ⟨k, hk, by rw [last, h]⟩

theorem Accepts.mono {n m : Nat} {s t : State} (h : Accepts n s t) (hle : n ≤ m) : Accepts m s t := by
  obtain ⟨k, hk, h⟩ := h
  exact ⟨k, hk.trans hle, h⟩

theorem raise_custody (f : Flag) (s : State) : (raise f s).custody = s.custody := rfl

theorem raiseIf_custody (b : Bool) (f : Flag) (s : State) : (raiseIf b f s).custody = s.custody := by
  rw [raiseIf_frame]; rfl

theorem acceptCapture_accepts (kind : CaptureKind) (latch : Latch) (s : State) :
    Accepts 1 s (acceptCapture kind latch s) := ⟨1, Nat.le_refl 1, acceptCapture_custody kind latch s⟩

theorem Capture.endScan_number (c : Capture) : c.endScan.seq = c.seq ∧ c.endScan.gate = c.gate := by
  unfold Capture.endScan
  split <;> exact ⟨rfl, rfl⟩

theorem closeScan_custody (d : Descriptor) (cause : EndCause) (s : State) : (closeScan d cause s).custody = s.custody := by
  simp [State.custody, closeScan, Function.comp_def, Capture.endScan_number]

theorem endScan_accepts (cause : EndCause) (s : State) : Accepts 1 s (endScan cause s) := by
  cases h : s.openScan with
  | none => rw [endScan_none h]; exact .none rfl
  | some d =>
    rw [endScan_some h]
    exact .before (.after (acceptCapture_accepts _ _ _) (closeScan_custody d cause s)) (raise_custody _ _)

theorem setChannels_accepts (after : Four Channel) (s : State) : Accepts 1 s (setChannels after s) := by
  unfold setChannels breakNotice
  simp only
  split
  · exact .none (raiseIf_custody _ _ _)
  · split
    · exact .after (endScan_accepts _ _) (raiseIf_custody _ _ _)
    · exact .none (raiseIf_custody _ _ _)

theorem lockArrive_accepts (high : Bool) (s : State) : Accepts 1 s (lockArrive high s) := by
  unfold lockArrive unlockNotice
  simp only
  split
  · exact .after (endScan_accepts _ _) (raiseIf_custody _ _ _)
  · exact .none (raiseIf_custody _ _ _)

theorem testScan_accepts (r : GateReport) (s : State) : Accepts 1 s (testScan r s) := by
  unfold testScan
  split
  · exact .none rfl
  · split
    · split <;> exact .none rfl
    · split
      · exact endScan_accepts _ _
      · exact .none rfl
    · exact .none rfl
    · exact .none rfl

theorem takeScanReport_accepts (s : State) : Accepts 1 s (takeScanReport s) := by
  unfold takeScanReport
  split
  · exact .none rfl
  · exact .after (testScan_accepts _ _) rfl

theorem datumCaptures_accepts (s : State) (axes : List (Fin 4)) : Accepts axes.length s (datumCaptures s axes) := by
  suffices h : (datumCaptures s axes).custody = Custody.accept^[axes.length] s.custody from ⟨_, Nat.le_refl _, h⟩
  induction axes generalizing s with
  | nil => rfl
  | cons j rest ih => rw [datumCaptures, ih, acceptCapture_custody]; rfl

theorem applyDatums_accepts (chosen : Fin 4 → Bool) (s : State) : Accepts 4 s (applyDatums chosen s) := by
  unfold applyDatums
  refine .after (.mono (datumCaptures_accepts _ _) (List.length_filter_le _ indices)) ?_
  rw [raiseIf_custody, raiseIf_custody]
  rfl

theorem ageSlots_custody (s : State) : (ageSlots s).custody = s.custody := raiseIf_custody _ _ _

theorem takeDatumReport_accepts (s : State) : Accepts 4 s (takeDatumReport s) := by
  unfold takeDatumReport
  split
  · refine .before ?_ (ageSlots_custody _)
    exact .after (applyDatums_accepts _ _) rfl
  · exact .none rfl

/-! ## Captures handed to the rings -/

/-- What becomes of a number handed to a ring: committed where there is room and neither ring holds it, or lost (R167,
R168). -/
inductive Handed (q : Word32) : Custody → Custody → Prop
  | main {v} (room : v.main.length < 512) (fresh : q ∉ v.main ++ v.exc) :
      Handed q v { v with main := v.main ++ [q], mainLost := 0 }
  | exc {v} (room : v.exc.length < 128) (fresh : q ∉ v.main ++ v.exc) :
      Handed q v { v with exc := v.exc ++ [q], excLost := 0 }
  | lostMain {v} : Handed q v { v with mainLost := satSucc 65535 v.mainLost }
  | lostExc {v} : Handed q v { v with excLost := satSucc 65535 v.excLost }

theorem not_mem_custody {s : State} {q : Word32} (h : s.seqHeld q = false) : q ∉ s.custody.main ++ s.custody.exc := by
  intro held
  rw [not_seqHeld_iff] at h
  rcases List.mem_append.mp held with hq | hq <;> obtain ⟨r, hr, rfl⟩ := List.mem_map.mp hq
  exacts [h r (.inl hr) rfl, h r (.inr hr) rfl]

theorem holdCompare_custody (s : State) : (holdCompare s).custody = s.custody := by
  rw [holdCompare_frame]; rfl

theorem handToMain_handed (r : Record) (s : State) : Handed r.seq s.custody (handToMain r s).custody := by
  by_cases h : s.main.records.length < 512 ∧ s.seqHeld r.seq = false
  · have same : (handToMain r s).custody = { s.custody with main := s.custody.main ++ [r.seq], mainLost := 0 } := by
      rw [handToMain_of_room h.1 h.2, holdCompare_custody]
      simp [State.custody, raise, Ring.commit]
    rw [same]
    exact .main (by simpa [State.custody] using h.1) (not_mem_custody h.2)
  · rw [show handToMain r s = raise .recordsLost { s with main := s.main.drop } from if_neg h]
    exact .lostMain

theorem handToException_handed (r : Record) (s : State) : Handed r.seq s.custody (handToException r s).custody := by
  by_cases h : s.exc.records.length < 128 ∧ s.seqHeld r.seq = false
  · have same : (handToException r s).custody = { s.custody with exc := s.custody.exc ++ [r.seq], excLost := 0 } := by
      rw [handToException_of_room h.1 h.2]
      simp [State.custody, raise, Ring.commit]
    rw [same]
    exact .exc (by simpa [State.custody] using h.1) (not_mem_custody h.2)
  · rw [show handToException r s = raise .recordsLost { s with exc := s.exc.drop } from if_neg h]
    exact .lostExc

theorem handLine_handed (answer : LineAnswer) (r : Record) (s : State) :
    Handed r.seq s.custody (handLine answer r s).custody := by
  unfold handLine
  simp only
  split
  · exact handToMain_handed { r with matchPart := answer.part, reason := answer.reason } s
  · exact handToException_handed { r with matchPart := answer.part, reason := answer.reason } s

theorem matchLine_custody (q : LineQuery) (s : State) : (matchLine q s).1.custody = s.custody := by
  rw [matchLine_frame]; rfl

theorem finalize_handed (r : GateReport) (s : State) (c : Capture) : Handed c.seq s.custody (finalize r s c).custody := by
  unfold finalize
  split
  next j _ =>
    have handed := handLine_handed (matchLine (lineQuery s.params r c j) s).2 (baseRecord s.params r c)
      (matchLine (lineQuery s.params r c j) s).1
    rwa [matchLine_custody] at handed
  · exact handLine_handed _ (baseRecord s.params r c) s
  · exact handLine_handed _ (baseRecord s.params r c) s
  all_goals exact handToMain_handed (baseRecord s.params r c) s

/-- Several numbers handed to the rings, in the order listed. -/
inductive HandedAll : List Word32 → Custody → Custody → Prop
  | nil {v} : HandedAll [] v v
  | cons {q rest v m w} (first : Handed q v m) (others : HandedAll rest m w) : HandedAll (q :: rest) v w

theorem finalizeAll_handed (r : GateReport) (cs : List Capture) (s : State) :
    HandedAll (cs.map fun c => c.seq) s.custody (cs.foldl (finalize r) s).custody := by
  induction cs generalizing s with
  | nil => exact .nil
  | cons c rest ih => exact .cons (finalize_handed r s c) (ih _)

/-- The captures that await the gate reported leave their slots and are handed to the rings, oldest first (R114). -/
theorem takeCaptureReport_handed {s : State} {r : GateReport} (h : s.due.capture = some r) :
    HandedAll ((s.custody.flying.filter fun c => c.2 == r.gate).map Prod.fst)
      { s.custody with flying := s.custody.flying.filter fun c => c.2 != r.gate, due := none }
      (takeCaptureReport s).custody := by
  unfold takeCaptureReport
  rw [h]
  have handed := finalizeAll_handed r (s.capture.inFlight.filter fun c => c.gate == r.gate)
    { s with
      capture := { s.capture with inFlight := s.capture.inFlight.filter fun c => c.gate != r.gate }
      due := { s.due with capture := none } }
  simpa [State.custody, List.filter_map, Function.comp_def] using handed

theorem Custody.Bounded.handed {q : Word32} {v w : Custody} (h : v.Bounded) (hand : Handed q v w) : w.Bounded := by
  cases hand with
  | main room fresh =>
    refine { h with main := by simpa using room, distinct := ?_, mainLost := Nat.zero_le _ }
    rw [List.append_assoc]
    exact (List.nodup_middle (l₁ := v.main)).mpr (List.nodup_cons.mpr ⟨fresh, h.distinct⟩)
  | exc room fresh =>
    refine { h with exc := by simpa using room, distinct := ?_, excLost := Nat.zero_le _ }
    rw [← List.append_assoc]
    exact List.nodup_append.mpr ⟨h.distinct, List.nodup_singleton _, fun a ha b hb hab =>
      fresh (List.mem_singleton.mp hb ▸ hab ▸ ha)⟩
  | lostMain => exact { h with mainLost := satSucc_le _ _ }
  | lostExc => exact { h with excLost := satSucc_le _ _ }

theorem Custody.Bounded.handedAll {qs : List Word32} {v w : Custody} (h : v.Bounded) (hand : HandedAll qs v w) :
    w.Bounded := by
  induction hand with
  | nil => exact h
  | cons first _ ih => exact ih (h.handed first)

/-- A number handed to a ring leaves gates, captures in flight and the next number alone. -/
theorem HandedAll.frame {qs : List Word32} {v w : Custody} (hand : HandedAll qs v w) :
    w.flying = v.flying ∧ w.next = v.next ∧ w.gate = v.gate ∧ w.due = v.due := by
  induction hand with
  | nil => exact ⟨rfl, rfl, rfl, rfl⟩
  | cons first _ ih => cases first <;> exact ih

/-- The oldest number in flight, handed on, stands above those of its ring and below those still in flight. -/
theorem Custody.Ordered.handed {c : Word32 × Word32} {later : List (Word32 × Word32)} {v w : Custody}
    (h : Custody.Ordered { v with flying := c :: later }) (hand : Handed c.1 v w) :
    Custody.Ordered { w with flying := later } := by
  obtain ⟨main, exc, flying, behind, above⟩ := h
  obtain ⟨first, flying⟩ := List.pairwise_cons.mp flying
  have oldest : c.1.toNat < v.next.toNat ∧ ∀ d, d ∈ later → c.1.toNat < d.1.toNat :=
    ⟨above c (List.mem_cons_self ..), fun d hd => (first d hd).1⟩
  have below : ∀ q, q ∈ v.main ∨ q ∈ v.exc → q.toNat < c.1.toNat := fun q hq => (behind q hq).2 c (List.mem_cons_self ..)
  have rest : ∀ q, q ∈ v.main ∨ q ∈ v.exc → q.toNat < v.next.toNat ∧ ∀ d, d ∈ later → q.toNat < d.1.toNat :=
    fun q hq => ⟨(behind q hq).1, fun d hd => (behind q hq).2 d (List.mem_cons_of_mem _ hd)⟩
  have above : ∀ d, d ∈ later → d.1.toNat < v.next.toNat := fun d hd => above d (List.mem_cons_of_mem _ hd)
  have appended : ∀ {l : List Word32}, l.Pairwise (fun a b => a.toNat < b.toNat) → (∀ q, q ∈ l → q.toNat < c.1.toNat) →
      (l ++ [c.1]).Pairwise fun a b => a.toNat < b.toNat := fun hl lt =>
    List.pairwise_append.mpr ⟨hl, List.pairwise_singleton _ _, fun a ha b hb => List.mem_singleton.mp hb ▸ lt a ha⟩
  cases hand with
  | main =>
    refine ⟨appended main fun q hq => below q (.inl hq), exc, flying, fun q hq => ?_, above⟩
    rcases hq with hq | hq
    · rcases List.mem_append.mp hq with old | new
      · exact rest q (.inl old)
      · exact List.mem_singleton.mp new ▸ oldest
    · exact rest q (.inr hq)
  | exc =>
    refine ⟨main, appended exc fun q hq => below q (.inr hq), flying, fun q hq => ?_, above⟩
    rcases hq with hq | hq
    · exact rest q (.inl hq)
    · rcases List.mem_append.mp hq with old | new
      · exact rest q (.inr old)
      · exact List.mem_singleton.mp new ▸ oldest
  | lostMain => exact ⟨main, exc, flying, rest, above⟩
  | lostExc => exact ⟨main, exc, flying, rest, above⟩

theorem Custody.Ordered.handedAll {cs later : List (Word32 × Word32)} {v w : Custody}
    (h : Custody.Ordered { v with flying := cs ++ later }) (hand : HandedAll (cs.map Prod.fst) v w) :
    Custody.Ordered { w with flying := later } := by
  induction cs generalizing v with
  | nil => cases hand; exact h
  | cons c rest ih =>
    cases hand with
    | cons first others => exact ih (Custody.Ordered.handed h first) others

/-- In a list where those that fail a test stand behind those that pass it, the two parts stand one behind the other. -/
theorem filter_append_filter_not {α : Type} (p : α → Bool) {l : List α}
    (h : l.Pairwise fun a b => p a = false → p b = false) : (l.filter p) ++ l.filter (fun a => !p a) = l := by
  induction l with
  | nil => rfl
  | cons a rest ih =>
    obtain ⟨first, others⟩ := List.pairwise_cons.mp h
    cases hp : p a with
    | true => simp [hp, ih others]
    | false =>
      have none : ∀ b, b ∈ rest → p b = false := fun b hb => first b hb hp
      have pass : rest.filter p = [] := List.filter_eq_nil_iff.mpr fun b hb => by simp [none b hb]
      have fail : rest.filter (fun b => !p b) = rest := List.filter_eq_self.mpr fun b hb => by simp [none b hb]
      simp [hp, pass, fail]

theorem word_ne_succ (g : Word32) : g ≠ g + 1 := by
  intro h
  have := congrArg BitVec.toNat h
  rw [BitVec.toNat_add] at this
  have := g.isLt
  simp at *

/-- A capture in flight while a report is due awaits the gate in progress exactly when it does not await the one
reported. -/
theorem Custody.Awaited.gate_ne {v : Custody} (h : v.Awaited) {g : Word32} (due : v.due = some g)
    {c : Word32 × Word32} (hc : c ∈ v.flying) : c.2 ≠ g ↔ c.2 = v.gate := by
  have reported := h.due g due
  constructor
  · intro ne
    rcases h.flying c hc with now | ⟨_, last⟩
    · exact now
    · exact absurd (add_right_cancel (last.trans reported.symm)) ne
  · rintro now rfl
    exact word_ne_succ c.2 (now.trans reported.symm)

/-! ## What each move does to the numbers -/

/-- What a move does to the numbers in custody. -/
inductive CustodyEffect (s t : State) : Prop
  | accepts (h : Accepts 4 s t)
  | report (h : t = takeCaptureReport s)
  | close (taken : s.custody.due = none)
      (h : t.custody = { s.custody with gate := s.custody.gate + 1, due := some s.custody.gate })
  | readMain (h : t.custody = { s.custody with main := s.custody.main.tail })
  | readExc (h : t.custody = { s.custody with exc := s.custody.exc.tail })

theorem adoptLength_gateNumber (length : Nat) (m : Motion) : (m.adoptLength length).gateNumber = m.gateNumber := by
  unfold Motion.adoptLength
  split <;> rfl

theorem countArrival_custody {s : State} (taken : s.due = .nothing) : CustodyEffect s (countArrival s) := by
  have none : s.custody.due = Option.none := by simp [State.custody, taken, Due.nothing]
  unfold countArrival
  split
  · refine .close none ?_
    simp [State.custody, closeGate, adoptLength_gateNumber, gateReport]
  · refine .accepts (.none ?_)
    rw [ageEnvironment_frame]
    rfl

theorem endMainRead_custody (complete : Bool) (s : State) : CustodyEffect s (endMainRead complete s) := by
  unfold endMainRead
  split
  · split
    · exact .readMain (by rw [holdCompare_custody]; simp [State.custody, Ring.endRead, List.map_tail])
    · exact .accepts (.none rfl)
  · exact .accepts (.none rfl)

theorem endExceptionRead_custody (complete : Bool) (s : State) : CustodyEffect s (endExceptionRead complete s) := by
  unfold endExceptionRead
  split
  · cases complete
    · exact .accepts (.none rfl)
    · exact .readExc (by simp [State.custody, Ring.endRead, List.map_tail])
  · exact .accepts (.none rfl)

theorem Move.custody {s t : State} (m : Move s t) : CustodyEffect s t := by
  cases m
  case captureReport => exact .report rfl
  case scanReport => exact .accepts ((takeScanReport_accepts s).mono (by decide))
  case datumReport => exact .accepts (takeDatumReport_accepts s)
  case frontEnd values =>
    exact .accepts (.mono (.after (setChannels_accepts _ _) (raiseIf_custody _ _ _)) (by decide))
  case lockArrive high => exact .accepts ((lockArrive_accepts high s).mono (by decide))
  case countArrival taken => exact countArrival_custody taken
  case accept kind latch => exact .accepts ((acceptCapture_accepts kind latch s).mono (by decide))
  case mark input edge => exact .accepts (applyDatums_accepts _ s)
  case endMainRead complete => exact endMainRead_custody complete s
  case endExcRead complete => exact endExceptionRead_custody complete s
  case enable c => exact .accepts ((setChannels_accepts _ s).mono (by decide))
  case disable c => exact .accepts ((setChannels_accepts _ s).mono (by decide))
  case restartChannel c => exact .accepts ((setChannels_accepts _ s).mono (by decide))
  case testStart set low high => exact .accepts (.mono (.after (setChannels_accepts _ _) rfl) (by decide))
  case testStop => exact .accepts (.mono (.after (setChannels_accepts _ _) rfl) (by decide))
  case endScan cause => exact .accepts ((endScan_accepts cause s).mono (by decide))
  case readMain => exact .accepts (.none (State.custody_congr (Ring.read_records _) (Ring.read_lost _) rfl rfl rfl rfl rfl))
  case readExc => exact .accepts (.none (State.custody_congr rfl rfl (Ring.read_records _) (Ring.read_lost _) rfl rfl rfl))
  all_goals exact .accepts (.none (State.custody_congr (by simp) (by simp) (by simp) (by simp) (by simp) (by simp) (by simp)))

theorem iterate_accept_keeps {P : Custody → Prop} (accept : ∀ v, P v → P v.accept) (k : Nat) {v : Custody} (h : P v) :
    P (Custody.accept^[k] v) := by
  induction k generalizing v with
  | zero => exact h
  | succ k ih => exact ih (accept v h)

theorem Move.keeps_bounded {s t : State} (m : Move s t) (h : s.custody.Bounded) : t.custody.Bounded := by
  cases m.custody with
  | accepts ha =>
    obtain ⟨k, -, same⟩ := ha
    exact same ▸ iterate_accept_keeps (fun _ hv => Custody.Bounded.accept hv) k h
  | report ht =>
    subst ht
    cases hr : s.due.capture with
    | none => rwa [show takeCaptureReport s = s by simp [takeCaptureReport, hr]]
    | some r =>
      have freed : Custody.Bounded { s.custody with flying := s.custody.flying.filter fun c => c.2 != r.gate, due := none } :=
        { h with flying := (List.length_filter_le _ _).trans h.flying }
      exact freed.handedAll (takeCaptureReport_handed hr)
  | close _ same => exact same ▸ { h with }
  | readMain same =>
    exact same ▸ { h with
      main := by have := h.main; simp; omega
      distinct := h.distinct.sublist ((List.tail_sublist _).append_right _) }
  | readExc same =>
    exact same ▸ { h with
      exc := by have := h.exc; simp; omega
      distinct := h.distinct.sublist ((List.tail_sublist _).append_left _) }

theorem Move.keeps_awaited {s t : State} (m : Move s t) (h : s.custody.Awaited) : t.custody.Awaited := by
  cases m.custody with
  | accepts ha =>
    obtain ⟨k, -, same⟩ := ha
    exact same ▸ iterate_accept_keeps (fun _ hv => Custody.Awaited.accept hv) k h
  | report ht =>
    subst ht
    cases hr : s.due.capture with
    | none => rwa [show takeCaptureReport s = s by simp [takeCaptureReport, hr]]
    | some r =>
      obtain ⟨flying, _, gate, due⟩ := (takeCaptureReport_handed hr).frame
      refine ⟨fun g hg => ?_, fun c hc => .inl ?_⟩
      · rw [due] at hg; cases hg
      · rw [flying] at hc
        obtain ⟨held, ne⟩ := List.mem_filter.mp hc
        rw [gate]
        exact (h.gate_ne (by simp [State.custody, hr]) held).mp (bne_iff_ne.mp ne)
  | close taken same =>
    rw [same]
    refine ⟨fun g hg => by cases hg; rfl, fun c hc => .inr ⟨rfl, ?_⟩⟩
    rcases h.flying c hc with now | ⟨due, _⟩
    · exact congrArg (· + 1) now
    · rw [taken] at due; cases due
  | readMain same => exact same ▸ ⟨h.due, h.flying⟩
  | readExc same => exact same ▸ ⟨h.due, h.flying⟩

theorem iterate_accept_next (k : Nat) (v : Custody) :
    (Custody.accept^[k] v).next.toNat = (v.next.toNat + k) % 2 ^ 32 := by
  induction k generalizing v with
  | zero => exact (Nat.mod_eq_of_lt v.next.isLt).symm
  | succ k ih =>
    rw [Function.iterate_succ_apply, ih, Custody.accept_next, BitVec.toNat_add]
    simp
    omega

theorem iterate_accept_ordered (k : Nat) {v : Custody} (h : v.Ordered) (room : v.next.toNat + k < 2 ^ 32) :
    (Custody.accept^[k] v).Ordered := by
  induction k generalizing v with
  | zero => exact h
  | succ k ih =>
    refine ih (h.accept (by omega)) ?_
    rw [Custody.accept_next, BitVec.toNat_add]
    exact lt_of_le_of_lt (Nat.add_le_add_right (Nat.mod_le _ _) k) (by simpa [Nat.add_assoc, Nat.add_comm 1 k] using room)

theorem Custody.Ordered.report {s : State} (h : s.custody.Ordered) (awaited : s.custody.Awaited) {r : GateReport}
    (hr : s.due.capture = some r) : (takeCaptureReport s).custody.Ordered := by
  have handed := takeCaptureReport_handed hr
  have due : s.custody.due = some r.gate := by simp [State.custody, hr]
  have parts : (s.custody.flying.filter fun c => c.2 == r.gate) ++ (s.custody.flying.filter fun c => c.2 != r.gate) =
      s.custody.flying := by
    refine filter_append_filter_not (fun c : Word32 × Word32 => c.2 == r.gate) ?_
    refine h.flying.imp_of_mem fun {a b} ha hb hab hne => ?_
    have now := (awaited.gate_ne due ha).mp (beq_eq_false_iff_ne.mp hne)
    exact beq_eq_false_iff_ne.mpr ((awaited.gate_ne due hb).mpr (hab.2 now))
  have before : Custody.Ordered
      { s.custody with
        flying := (s.custody.flying.filter fun c => c.2 == r.gate) ++ (s.custody.flying.filter fun c => c.2 != r.gate)
        due := none } := by
    rw [parts]; exact { h with }
  have after := Custody.Ordered.handedAll
    (v := { s.custody with flying := s.custody.flying.filter fun c => c.2 != r.gate, due := none }) before handed
  obtain ⟨flying, _⟩ := handed.frame
  have same : s.custody.flying.filter (fun c => c.2 != r.gate) = (takeCaptureReport s).custody.flying := flying.symm
  rwa [same] at after

/-- A move spends at most four sequence numbers, and keeps their order where the next one does not wrap. -/
theorem Move.ordered {s t : State} (m : Move s t) : ∃ k, k ≤ 4 ∧
    t.custody.next.toNat = (s.custody.next.toNat + k) % 2 ^ 32 ∧
    (s.custody.Awaited → s.custody.Ordered → s.custody.next.toNat + k < 2 ^ 32 → t.custody.Ordered) := by
  have unspent : s.custody.next.toNat = (s.custody.next.toNat + 0) % 2 ^ 32 :=
    (Nat.mod_eq_of_lt s.custody.next.isLt).symm
  cases m.custody with
  | accepts ha =>
    obtain ⟨k, hk, same⟩ := ha
    exact ⟨k, hk, same ▸ iterate_accept_next k _, fun _ h room => same ▸ iterate_accept_ordered k h room⟩
  | report ht =>
    subst ht
    cases hr : s.due.capture with
    | none =>
      rw [show takeCaptureReport s = s by simp [takeCaptureReport, hr]]
      exact ⟨0, by decide, unspent, fun _ h _ => h⟩
    | some r =>
      have next := (takeCaptureReport_handed hr).frame.2.1
      exact ⟨0, by decide, (congrArg BitVec.toNat next).trans unspent, fun awaited h _ => h.report awaited hr⟩
  | close taken same =>
    refine ⟨0, by decide, by rw [same]; exact unspent, fun awaited h _ => ?_⟩
    rw [same]
    refine { h with flying := h.flying.imp_of_mem fun {a b} ha _ hab => ⟨hab.1, fun now => ?_⟩ }
    rcases awaited.flying a ha with last | ⟨due, _⟩
    · exact absurd (last.symm.trans now) (word_ne_succ _)
    · rw [taken] at due; cases due
  | readMain same =>
    refine ⟨0, by decide, by rw [same]; exact unspent, fun _ h _ => ?_⟩
    rw [same]
    exact { h with
      main := h.main.sublist (List.tail_sublist _)
      behind := fun q hq => h.behind q (hq.imp_left List.mem_of_mem_tail) }
  | readExc same =>
    refine ⟨0, by decide, by rw [same]; exact unspent, fun _ h _ => ?_⟩
    rw [same]
    exact { h with
      exc := h.exc.sublist (List.tail_sublist _)
      behind := fun q hq => h.behind q (hq.imp_right List.mem_of_mem_tail) }

theorem Moves.ordered {n : Nat} {s t : State} (m : Moves n s t) : ∃ k, k ≤ 4 * n ∧
    t.custody.next.toNat = (s.custody.next.toNat + k) % 2 ^ 32 ∧
    (s.custody.Awaited → s.custody.Ordered → s.custody.next.toNat + k < 2 ^ 32 → t.custody.Ordered) := by
  induction m with
  | @stay n s => exact ⟨0, Nat.zero_le _, (Nat.mod_eq_of_lt s.custody.next.isLt).symm, fun _ h _ => h⟩
  | next first _ ih =>
    obtain ⟨k, hk, spent, ordered⟩ := first.ordered
    obtain ⟨l, hl, spent', ordered'⟩ := ih
    refine ⟨k + l, by omega, by rw [spent', spent]; omega, fun awaited h room => ?_⟩
    refine ordered' (first.keeps_awaited awaited) (ordered awaited h (by omega)) ?_
    rw [spent, Nat.mod_eq_of_lt (by omega)]
    omega

/-! ## Edits -/

/-- Nothing in custody, as a reset leaves it. -/
theorem empty_custody (next gate : Word32) :
    Custody.Bounded ⟨[], [], 0, 0, [], next, gate, none⟩ ∧ Custody.Awaited ⟨[], [], 0, 0, [], next, gate, none⟩ ∧
      Custody.Ordered ⟨[], [], 0, 0, [], next, gate, none⟩ :=
  ⟨⟨Nat.zero_le _, Nat.zero_le _, Nat.zero_le _, .nil, Nat.zero_le _, Nat.zero_le _⟩, ⟨nofun, nofun⟩,
    ⟨.nil, .nil, .nil, fun _ h => h.elim nofun nofun, nofun⟩⟩

/-- An edit spends at most one sequence number, or is RESTART, which leaves nothing in custody. -/
theorem Edit.custody {s t : State} (e : Edit s t) :
    Accepts 1 s t ∨ ∃ next gate, t.custody = ⟨[], [], 0, 0, [], next, gate, none⟩ := by
  cases e
  case write q value valid closed agree =>
    refine .inl ?_
    cases q
    case lockOverride =>
      simp only [applyStore, unlockNotice]
      split
      · exact .after (endScan_accepts _ _) rfl
      · exact .none rfl
    case weight j c =>
      simp only [applyStore]
      split
      · exact .none (by rw [weightChanged_frame]; rfl)
      · exact .none rfl
    case lambda => simp only [applyStore]; split <;> exact .none rfl
    case pathK c => simp only [applyStore]; split <;> exact .none rfl
    case deadPath c => simp only [applyStore]; split <;> exact .none rfl
    case highWater => exact .none (holdCompare_custody _)
    case lowWater => exact .none (holdCompare_custody _)
    all_goals exact .none rfl
  case insert => exact .inl (.none rfl)
  case remove => exact .inl (.none rfl)
  case restart => exact .inr ⟨_, _, rfl⟩

theorem Edit.keeps_bounded {s t : State} (e : Edit s t) (h : s.custody.Bounded) : t.custody.Bounded := by
  rcases e.custody with ⟨k, -, same⟩ | ⟨next, gate, empty⟩
  · exact same ▸ iterate_accept_keeps (fun _ hv => Custody.Bounded.accept hv) k h
  · exact empty ▸ (empty_custody next gate).1

theorem Edit.keeps_awaited {s t : State} (e : Edit s t) (h : s.custody.Awaited) : t.custody.Awaited := by
  rcases e.custody with ⟨k, -, same⟩ | ⟨next, gate, empty⟩
  · exact same ▸ iterate_accept_keeps (fun _ hv => Custody.Awaited.accept hv) k h
  · exact empty ▸ (empty_custody next gate).2.1

theorem storeLaw_step {s t : State} (hs : StoreLaw s) (h : step s = .next t) : StoreLaw t := by
  rw [storeLaw_iff] at hs ⊢
  exact step_keeps (P := fun s => s.custody.Bounded) Move.keeps_bounded Edit.keeps_bounded
    (fun _ _ _ => (empty_custody _ _).1) hs h

theorem awaitedGateLaw_step {s t : State} (hs : AwaitedGateLaw s) (h : step s = .next t) : AwaitedGateLaw t := by
  rw [awaitedGateLaw_iff] at hs ⊢
  exact step_keeps (P := fun s => s.custody.Awaited) Move.keeps_awaited Edit.keeps_awaited
    (fun _ _ _ => (empty_custody _ _).2.1) hs h

/-- A next number that has spent few and stands no lower has not wrapped. -/
theorem unwrapped {a b k : Nat} (ha : a < 2 ^ 32) (small : k < 2 ^ 32) (spent : b = (a + k) % 2 ^ 32) (le : a ≤ b) :
    a + k < 2 ^ 32 := by
  omega

theorem sequenceLaw_step {s t : State} (awaited : AwaitedGateLaw s) (hs : SequenceLaw s) (h : step s = .next t)
    (unspent : s.capture.nextSeq.toNat ≤ t.capture.nextSeq.toNat) : SequenceLaw t := by
  rw [awaitedGateLaw_iff] at awaited
  rw [sequenceLaw_iff] at hs ⊢
  rcases step_outcome h with moves | ⟨m, u, mp, dequeue, changed, rfl⟩ | ⟨m, held, dequeue, rfl⟩
  · obtain ⟨k, hk, spent, ordered⟩ := moves.ordered
    exact ordered awaited hs (unwrapped (BitVec.isLt _) (by omega) spent unspent)
  · obtain ⟨k, hk, spent, ordered⟩ := dequeue.ordered
    rcases changed.custody with ⟨l, hl, same⟩ | ⟨next, gate, empty⟩
    · have spentTotal : u.custody.next.toNat = (s.custody.next.toNat + (k + l)) % 2 ^ 32 := by
        rw [same, iterate_accept_next, spent]; omega
      have room := unwrapped (BitVec.isLt _) (by omega) spentTotal unspent
      show u.custody.Ordered
      rw [same]
      refine iterate_accept_ordered l (ordered awaited hs (by omega)) ?_
      rw [spent, Nat.mod_eq_of_lt (by omega)]
      omega
    · exact empty ▸ (empty_custody next gate).2.2
  · exact (empty_custody _ _).2.2

/-! ## The graduation table -/

/-- The law of the table speaks of the graduations, and of the hits only that they do not pass 255. -/
theorem TableLaw.of_shapes {a b : List Entry} (h : TableLaw a) (shapes : b.map Entry.shape = a.map Entry.shape)
    (hits : ∀ e, e ∈ b → e.hits ≤ 255) : TableLaw b := by
  obtain ⟨room, ranged, apart⟩ := h
  refine ⟨?_, fun e he => ?_, ?_⟩
  · rwa [← List.length_map (f := Entry.shape) (as := b), shapes, List.length_map]
  · obtain ⟨e', he', same⟩ := List.mem_map.mp (shapes ▸ List.mem_map_of_mem (f := Entry.shape) he)
    obtain ⟨index, nominal, low, high, -⟩ := ranged e' he'
    simp only [Entry.shape, Prod.mk.injEq] at same
    obtain ⟨hi, hn, hw, -⟩ := same
    exact ⟨hi ▸ index, hn ▸ nominal, hw ▸ low, hw ▸ high, hits e he⟩
  · have mapped : ∀ l : List Entry, (l.Pairwise fun a b =>
        a.nominal < b.nominal ∧ a.nominal + a.halfWindow < b.nominal - b.halfWindow ∧ a.index ≠ b.index) ↔
        (l.map Entry.shape).Pairwise fun a b =>
          a.2.1 < b.2.1 ∧ a.2.1 + a.2.2.1 < b.2.1 - b.2.2.1 ∧ a.1 ≠ b.1 := fun l => by
      rw [List.pairwise_map]; rfl
    rw [mapped, shapes, ← mapped]
    exact apart

theorem Entry.hit_hits {e : Entry} (h : e.hits ≤ 255) (seq : Word32) (result : MatchResult) :
    (e.hit seq result).hits ≤ 255 := by
  cases result
  case matched => exact (by decide : 1 ≤ 255)
  case double => exact satSucc_le _ _
  all_goals exact h

theorem mem_modify {α : Type} {f : α → α} {l : List α} {n : Nat} {x : α} (h : x ∈ l.modify n f) :
    x ∈ l ∨ ∃ y, y ∈ l ∧ x = f y := by
  obtain ⟨i, hi, rfl⟩ := List.mem_iff_getElem.mp h
  rw [List.getElem_modify]
  have hi : i < l.length := by simpa using hi
  split
  · exact .inr ⟨_, List.getElem_mem hi, rfl⟩
  · exact .inl (List.getElem_mem hi)

theorem TableLaw.matchLine {s : State} (h : TableLaw s.matcher.table) (q : LineQuery) :
    TableLaw (matchLine q s).1.matcher.table := by
  refine h.of_shapes (matchLine_shapes q s) ?_
  have hits : ∀ e, e ∈ s.matcher.table → e.hits ≤ 255 := fun e he => (h.2.1 e he).2.2.2.2
  unfold Machine.matchLine lookupLine
  split
  · exact hits
  · split
    · exact hits
    · intro e he
      rcases mem_modify he with old | ⟨e', he', rfl⟩
      · exact hits e old
      · exact Entry.hit_hits (hits e' he') _ _

theorem TableLaw.clear {table : List Entry} (h : TableLaw table) : TableLaw (table.map Entry.clear) := by
  refine h.of_shapes (clear_shapes table) fun e he => ?_
  obtain ⟨e', -, rfl⟩ := List.mem_map.mp he
  exact Nat.zero_le _

theorem TableLaw.filter {table : List Entry} (h : TableLaw table) (keep : Entry → Bool) :
    TableLaw (table.filter keep) := by
  obtain ⟨room, ranged, apart⟩ := h
  exact ⟨(List.length_filter_le _ _).trans room, fun e he => ranged e (List.mem_of_mem_filter he),
    apart.sublist List.filter_sublist⟩

theorem findFrom_none {p : Entry → Bool} {start : Nat} {table : List Entry} :
    findFrom p start table = none ↔ ∀ e, e ∈ table → p e = false := by
  induction table generalizing start with
  | nil => simp [findFrom]
  | cons e rest ih =>
    cases hp : p e <;> simp [findFrom, hp, ih]

/-- No entry satisfies a test exactly when the search finds none. -/
theorem findEntry_none {p : Entry → Bool} {table : List Entry} :
    findEntry p table = none ↔ ∀ e, e ∈ table → p e = false := findFrom_none

theorem insertEntry_perm (e : Entry) (table : List Entry) : (insertEntry e table).Perm (e :: table) := by
  induction table with
  | nil => exact .refl _
  | cons x rest ih =>
    unfold insertEntry
    split
    · exact .refl _
    · exact ((List.Perm.cons x ih).trans (.swap e x rest))

theorem mem_insertEntry {e x : Entry} {table : List Entry} : x ∈ insertEntry e table ↔ x = e ∨ x ∈ table := by
  rw [(insertEntry_perm e table).mem_iff, List.mem_cons]

/-- Two windows of entries in range that do not meet lie one below the other, as their nominals do. -/
theorem Entry.apart {a b : Entry} (ha : a.InRange) (hb : b.InRange) (h : Entry.meets a b = false) :
    (a.nominal < b.nominal → a.nominal + a.halfWindow < b.nominal - b.halfWindow) ∧
      (¬ a.nominal < b.nominal → b.nominal < a.nominal ∧ b.nominal + b.halfWindow < a.nominal - a.halfWindow) := by
  obtain ⟨-, -, lowA, -, -⟩ := ha
  obtain ⟨-, -, lowB, -, -⟩ := hb
  simp only [Entry.meets, decide_eq_false_iff_not] at h
  omega

/-- An entry whose index no other has and whose window meets none keeps the table's law where it is inserted (R128). -/
theorem TableLaw.insert {table : List Entry} {e : Entry} (h : TableLaw table) (room : table.length < 4096)
    (ranged : e.InRange) (fresh : ∀ x, x ∈ table → x.index ≠ e.index)
    (apart : ∀ x, x ∈ table → Entry.meets e x = false) : TableLaw (insertEntry e table) := by
  obtain ⟨-, entries, sorted⟩ := h
  refine ⟨by rw [(insertEntry_perm e table).length_eq]; exact room, fun x hx => ?_, ?_⟩
  · rcases mem_insertEntry.mp hx with rfl | old
    exacts [ranged, entries x old]
  · clear room
    induction table with
    | nil => exact List.pairwise_singleton _ _
    | cons x rest ih =>
      obtain ⟨first, others⟩ := List.pairwise_cons.mp sorted
      have xRanged := entries x (List.mem_cons_self ..)
      have xApart := Entry.apart ranged xRanged (apart x (List.mem_cons_self ..))
      have xFresh := fresh x (List.mem_cons_self ..)
      unfold insertEntry
      split
      next below =>
        refine List.pairwise_cons.mpr ⟨fun y hy => ?_, sorted⟩
        rcases List.mem_cons.mp hy with rfl | later
        · exact ⟨below, xApart.1 below, Ne.symm xFresh⟩
        · have lower := (first y later).1
          have yRanged := entries y hy
          have yBelow : e.nominal < y.nominal := by omega
          exact ⟨yBelow, (Entry.apart ranged yRanged (apart y hy)).1 yBelow, Ne.symm (fresh y hy)⟩
      next above =>
        have kept := ih (fun y hy => fresh y (List.mem_cons_of_mem _ hy)) (fun y hy => apart y (List.mem_cons_of_mem _ hy))
          (fun y hy => entries y (List.mem_cons_of_mem _ hy)) others
        refine List.pairwise_cons.mpr ⟨fun y hy => ?_, kept⟩
        rcases mem_insertEntry.mp hy with rfl | later
        · exact ⟨(xApart.2 above).1, (xApart.2 above).2, xFresh⟩
        · exact first y later

theorem Move.keeps_tableLaw {s t : State} (m : Move s t) (h : TableLaw s.matcher.table) : TableLaw t.matcher.table := by
  cases m
  case captureReport =>
    exact takeCaptureReport_keeps (P := fun t => TableLaw t.matcher.table) (fun _ _ _ h => h)
      (fun q t h => h.matchLine q) (fun r t h => by simpa using h) (fun r t h => by simpa using h) h
  case openScan => exact h.clear
  all_goals simpa using h

theorem Edit.keeps_tableLaw {s t : State} (e : Edit s t) (h : TableLaw s.matcher.table) : TableLaw t.matcher.table := by
  cases e
  case write => simpa using h
  case insert e idle room ranged fresh apart =>
    refine h.insert room ranged (fun x hx => ?_) fun x hx => findEntry_none.mp apart x hx
    exact beq_eq_false_iff_ne.mp (findEntry_none.mp fresh x hx)
  case remove keep idle => exact h.filter keep
  case restart => exact h.clear

theorem tableLaw_nil : TableLaw [] := ⟨Nat.zero_le _, nofun, .nil⟩

/-- Settles O58: by what each move does to the numbers in custody, and to the graduations and hits of the table. -/
theorem stepsKeepTheStoreAndTableLaws : Obligations.StepsKeepTheStoreAndTableLaws :=
  ⟨⟨fun _ _ => storeLaw_step, fun _ _ => awaitedGateLaw_step, fun _ _ => sequenceLaw_step⟩,
    fun _ _ hs h => step_keeps (P := fun s => TableLaw s.matcher.table) Move.keeps_tableLaw Edit.keeps_tableLaw
      (fun _ _ _ => tableLaw_nil) hs h⟩

end Sys2Proof.Machine
end

section
/-! PROOFS. The resets, the framing of the measurement link, and what every command answers (R170, R171, R177 to R179, R183,
R190). -/

namespace Sys2Proof.Machine

/-! ## A command that is taken -/

/-- A command that is taken leaves the state of its reply, answered with the reply's status and data (R178, R179). -/
theorem answered {c : Command} {body : State → Reply} {s : State} (waits : s.Waits) {r : Reply} (reply : body s = r) :
    takeCommand c body s = .next (r.state.answer c.code c.arguments (r.status.code :: r.data)) := by
  subst reply
  exact takeCommand_of_waits waits c body

/-! ## Resets -/

theorem storeCounts_of_paramLaw {p : Params} (h : ParamLaw p) : StoreCounts p := by
  obtain ⟨ranges, -⟩ := h
  have code : ∀ v : Nat, (v : Int) ∈ ([0, 1, 2, 3] : List Int) → v ≤ 3 := by
    intro v hv
    simp only [List.mem_cons, List.not_mem_nil, or_false] at hv
    omega
  exact ⟨code _ (ranges .gateSel), code _ (ranges .settleSel), Int.ofNat_le.mp (ranges .lossPersist).2,
    code _ (ranges .lockSettle), Int.ofNat_le.mp (ranges .envStaleLimit).2, Int.ofNat_le.mp (ranges .testPeriod).2⟩

/-- What either reset leaves is lawful where the parameters and the table that it keeps are. -/
theorem lawful_afterReset {p : Params} {table : List Entry} (params : ParamLaw p) (entries : TableLaw table)
    (tracker : ∀ j c, p.trackerCh = some c → weighted p j c = false) : Lawful (.afterReset p table) where
  channels := channelLaw_of_reset rfl rfl
  refractivity := (refractivityLaw_iff _).mpr ⟨.reset (params.1 .nDefault), params.1 .nDefault⟩
  datums j c referenced := by
    simp only [State.afterReset, Four.get_ofFn, Axis.reset] at referenced
    split at referenced <;> cases referenced
  axes := (axisLaw_iff _).mpr (axesOk_afterReset tracker table)
  store := (storeLaw_iff _).mpr (empty_custody 0 0).1
  gates := (awaitedGateLaw_iff _).mpr (empty_custody 0 0).2.1
  sequence := (sequenceLaw_iff _).mpr (empty_custody 0 0).2.2
  table := entries
  hold := by
    obtain ⟨ranges, -, order, -⟩ := params
    have low := (ranges .highWater).1
    exact ⟨order, Int.ofNat_le.mp (ranges .highWater).2, fun full =>
      absurd (Int.ofNat_le.mpr (show p.highWater ≤ 0 from full)) (Int.not_le.mpr low)⟩
  params := params
  counters := (counterLaw_iff _).mpr (counts_afterReset (storeCounts_of_paramLaw params) table)

/-- No law speaks of the queue, the level of RESET_N or the measurement link. -/
theorem Lawful.of_links {s : State} (h : Lawful s) (pending : List Instr) (resetLow : Bool) (mp : MeasurementLink) :
    Lawful { s with pending := pending, resetLow := resetLow, mp := mp } :=
  ⟨h.channels, h.refractivity, h.datums, h.axes, h.store, h.gates, h.sequence, h.table, h.hold, h.params, h.counters⟩

theorem lawful_resetPart (held : Bool) (s : State) : Lawful (resetPart held s) :=
  (lawful_afterReset paramLaw_default tableLaw_nil fun _ _ h => nomatch h).of_links _ _ _

/-- Settles O54: both resets leave every block at values that meet its law. -/
theorem lawsHoldAtReset : Obligations.LawsHoldAtReset := by
  refine ⟨lawful_afterReset paramLaw_default tableLaw_nil fun _ _ h => (nomatch h), ?_⟩
  rintro s t i (⟨rfl, waits⟩ | ⟨held, rfl⟩) params table tracker run
  · rw [show exec .restart s = _ from (answered waits rfl : execRestart s = _)] at run
    cases run
    exact (lawful_afterReset params table.clear tracker).of_links _ _ _
  · cases run
    exact lawful_resetPart held s

/-- The reset values of every block (R1, R4, R33, R43, R74, R88, R102, R121, R125, R146, R160, R173, R177, R184, R188,
R191). -/
theorem atReset_afterReset (p : Params) {table : List Entry} (cleared : ∀ e, e ∈ table → e.hits = 0 ∧ e.firstHit = none) :
    AtReset (.afterReset p table) := by
  have axis : ∀ j, Axis.reset (p.allZero j) =
      { state := if ∀ c, (p.weight.get j).get c = 0 then .undefined else .unreferenced
        offset := 0, nDat := 0, epoch := 0, datumBreaks := ⟨0, 0, 0, 0⟩ } := fun j => by
    simp [Axis.reset, Params.allZero, Four.fill]
  have tracker : (Refractivity.reset p).tracker = if p.trackerCh = none then .absent else .frozen := by
    cases h : p.trackerCh <;> simp [Refractivity.reset, h]
  exact ⟨rfl, fun c => Four.get_fill _ c, rfl, rfl, rfl, rfl, rfl, rfl, rfl, rfl, rfl, tracker, rfl, rfl, rfl, rfl,
    fun j => (Four.get_ofFn _ j).trans (axis j), fun j => Four.get_fill _ j, rfl, rfl, rfl, fun j => Four.get_fill _ j, rfl,
    cleared, rfl, rfl, rfl, rfl, rfl, rfl, rfl, rfl, rfl, rfl, rfl, rfl, rfl, rfl, rfl⟩

theorem cleared_of_clear (table : List Entry) : ∀ e, e ∈ table.map Entry.clear → e.hits = 0 ∧ e.firstHit = none := by
  intro e he
  obtain ⟨old, -, rfl⟩ := List.mem_map.mp he
  exact ⟨rfl, rfl⟩

/-- Settles O53: either reset gives the values after reset, on the parameters and entries that it keeps. -/
theorem resetsReturnEveryBlock : Obligations.ResetsReturnEveryBlock := by
  refine ⟨fun s waits => ⟨restartPart s, (answered waits rfl : execRestart s = _), ?_⟩, fun s held => ⟨resetPart held s, rfl, ?_⟩,
    atReset_afterReset .default nofun, getParam_default, rfl⟩
  · exact ⟨atReset_afterReset s.params (cleared_of_clear _), rfl, rfl, rfl, rfl, waits.1, rfl⟩
  · exact ⟨atReset_afterReset .default nofun, getParam_default, rfl, rfl, rfl, rfl, rfl⟩

end Sys2Proof.Machine
end

section
/-! PROOFS. Steps, the framing of the measurement link, the answers of the command summary, and the ring reads (R170, R171,
R178, R179, R190). -/

namespace Sys2Proof.Machine

/-! ## Steps -/

/-- Settles O1: `step` is the run of the front command, by the two shapes of the queue. -/
theorem stepRunsTheFrontCommand : Obligations.StepRunsTheFrontCommand := by
  refine ⟨fun s c rest h => ?_, fun s h => ?_⟩ <;> unfold step <;> rw [h]

/-! ## What is ignored -/

/-- While RESET_N is low everything but MP_SEL and RESET_N itself is ignored: events and commands run by `live`. -/
theorem exec_of_low {s : State} {i : Instr} (low : s.resetLow = true) (notBegin : i ≠ .transactionBegin)
    (notEnd : ∀ n, i ≠ .transactionEnd n) (notReset : ∀ h, i ≠ .deviceReset h) : exec i s = .next s := by
  cases i
  case transactionBegin => exact absurd rfl notBegin
  case transactionEnd n => exact absurd rfl (notEnd n)
  case deviceReset h => exact absurd rfl (notReset h)
  all_goals exact if_pos low

/-! ## Transactions -/

theorem endTransaction_of_no_head {s : State} (main : s.main.headUnderRead = false) (exc : s.exc.headUnderRead = false)
    (n : Nat) : endTransaction n s = { s with mp := { selected := false, transaction := none } } := by
  unfold endTransaction
  cases s.mp.transaction <;> simp [endMainRead, endExceptionRead, main, exc]

theorem execTransactionEnd_of_high {s : State} (high : s.resetLow = false) (n : Nat) :
    exec (.transactionEnd n) s = .next (endTransaction n s) := by
  show Host.Outcome.next (if s.resetLow = true then _ else _) = _
  rw [high]; rfl

theorem execTransactionBegin_of_high {s : State} (high : s.resetLow = false) :
    exec .transactionBegin s = .next (beginTransaction s) := by
  show Host.Outcome.next (if s.resetLow = true then _ else _) = _
  rw [high]; rfl

/-- A row of the command summary with the code of a command. -/
def Command.row : Command → Instr
  | .identify => .identify
  | .readStatus => .readStatus
  | .readEvents => .readEvents
  | .setEventMask => .setEventMask 0
  | .setParam => .setParam 0 0
  | .getParam => .getParam 0
  | .channelEnable => .channelEnable 0
  | .channelDisable => .channelDisable 0
  | .channelRestart => .channelRestart 0
  | .testStart => .testStart 0
  | .testStop => .testStop
  | .datumArm => .datumArm 0 0 0 0 0
  | .datumCancel => .datumCancel 0
  | .readAxis => .readAxis 0
  | .captureNow => .captureNow
  | .tableInsert => .tableInsert 0 0 0 0
  | .tableDelete => .tableDelete 0 0
  | .tableFlush => .tableFlush 0
  | .tableRead => .tableRead 0 0
  | .scanOpen => .scanOpen 0 0 0 0 0 0
  | .scanClose => .scanClose
  | .scanClear => .scanClear
  | .readRecord => .readRecord
  | .readException => .readException
  | .restart => .restart

theorem summaryRow_row (c : Command) : summaryRow c.row = some (c.code, c.arguments) := by cases c <;> rfl

/-- A byte that no row of the command summary has for its code is no known code. -/
theorem knownCode_of_no_row {b : Byte} (h : ∀ i n, summaryRow i ≠ some (b, n)) : knownCode b = false := by
  simp only [knownCode, List.any_eq_false, beq_iff_eq]
  rintro c - rfl
  exact h c.row c.arguments (summaryRow_row c)

theorem exec_unknown {s : State} {b : Byte} (waits : s.Waits) (unknown : knownCode b = false) :
    exec (.unknownCommand b) s = .next (s.answer b 0 [0x11]) := by
  obtain ⟨high, t, some, untaken⟩ := waits.transaction
  show execUnknownCommand b s = _
  simp [execUnknownCommand, live, high, some, untaken, unknown, State.answer, Status.code]

/-! ## The answers of the command summary -/

/-- What the summary asks of the reply to command `c`: the link left alone, as many bytes as it gives, and with a status of
0x10 or above no change; CAPTURE NOW apart (R178, R179). -/
structure Reply.Fits (c : Command) (s : State) (r : Reply) : Prop where
  mp : r.state.mp = s.mp
  length : ∀ n, responseBytes c.code = some n → r.data.length = n
  unchanged : c ≠ .captureNow → 16 ≤ r.status.code.toNat → r.state = s

/-- A number of response bytes that the summary gives is the only one. -/
theorem responseBytes_unique {b : Byte} {k n : Nat} (given : responseBytes b = some k) (h : responseBytes b = some n) :
    k = n := Option.some.inj (given.symm.trans h)

theorem not_refusal {st : Status} (h : st = .ok ∨ st = .clamped ∨ st = .deferred ∨ st = .empty) :
    ¬ 16 ≤ st.code.toNat := by
  rcases h with rfl | rfl | rfl | rfl <;> decide

theorem Reply.Fits.keep {c : Command} {s : State} {st : Status} {data : List Byte}
    (given : responseBytes c.code = some data.length) : Fits c s (.keep s st data) :=
  ⟨rfl, fun _ => responseBytes_unique given, fun _ _ => rfl⟩

theorem Reply.Fits.ok {c : Command} {s t : State} {data : List Byte} (mp : t.mp = s.mp)
    (given : responseBytes c.code = some data.length) : Fits c s (.ok t data) :=
  ⟨mp, fun _ => responseBytes_unique given, fun _ refused => absurd refused (not_refusal (.inl rfl))⟩

theorem writeParam_fits (q : Param) (value : BitVec 32) (s : State) : Reply.Fits .setParam s (writeParam q value s) := by
  unfold writeParam
  simp only
  split
  · exact .keep rfl
  · split
    · exact .keep rfl
    · split
      · exact .keep rfl
      · refine ⟨by simp, fun _ => responseBytes_unique rfl, fun _ refused => ?_⟩
        split at refused
        · exact absurd refused (not_refusal (.inr (.inl rfl)))
        · exact absurd refused (not_refusal (.inl rfl))

theorem channelCommand_fits {c : Command} (none : responseBytes c.code = some 0) (channel : Byte)
    (f : Channel → Channel) (s : State) : Reply.Fits c s (channelCommand channel f s) := by
  unfold channelCommand
  split
  · exact .keep none
  · exact .ok (by simp) none

theorem insertInto_fits (e : Entry) (s : State) : Reply.Fits .tableInsert s (insertInto e s) := by
  unfold insertInto
  split
  · exact .keep rfl
  · split
    · exact .keep rfl
    · split
      · exact .keep rfl
      · split
        · exact .keep rfl
        · exact .ok rfl rfl

theorem datumArm_fits (axis source edge : Byte) (preset : BitVec 64) (timeout : BitVec 16) (s : State) :
    Reply.Fits .datumArm s
      (match memberOf axis, datumSourceOf source, edgeOf edge with
      | some j, some src, some e =>
        if inLengthRange preset.toInt then
          { state := (requestDatum s j .measurement src e preset.toInt timeout.toNat).1
            status := (requestDatum s j .measurement src e preset.toInt timeout.toNat).2.status
            data := [] }
        else .keep s .badArgument
      | _, _, _ => .keep s .badArgument) := by
  split
  · split
    · refine ⟨by simp, fun _ => responseBytes_unique rfl, fun _ refused => ?_⟩
      unfold requestDatum at refused ⊢
      simp only at refused ⊢
      split at refused
      next h => rw [h] at refused; exact absurd refused (not_refusal (.inl rfl))
      next h => rw [h] at refused; exact absurd refused (not_refusal (.inr (.inr (.inl rfl))))
      next => rfl
    · exact .keep rfl
  · exact .keep rfl

theorem datumCancel_fits (axis : Byte) (s : State) :
    Reply.Fits .datumCancel s
      (match memberOf axis with
      | none => .keep s .badArgument
      | some j =>
        { state := (cancelDatum s j .measurement).1
          status := if (cancelDatum s j .measurement).2 then .ok else .notOwner
          data := [] }) := by
  split
  · exact .keep rfl
  · refine ⟨by simp, fun _ => responseBytes_unique rfl, fun _ refused => ?_⟩
    unfold cancelDatum at refused ⊢
    split
    · rfl
    · split
      next => simp_all [Status.code]
      next => rfl

theorem ringRead_status (ring : Ring) : ¬ 16 ≤ ring.read.2.1.code.toNat := by
  unfold Ring.read
  split
  · exact not_refusal (.inr (.inr (.inr rfl)))
  · exact not_refusal (.inl rfl)

/-- Every row of the command summary is the command of its code, with a body whose replies fit the summary. -/
theorem summaryRow_served {i : Instr} {code : Byte} {n : Nat} (row : summaryRow i = some (code, n)) :
    ∃ (c : Command) (body : State → Reply), (∀ s, exec i s = takeCommand c body s) ∧ c.code = code ∧ c.arguments = n ∧
      (c = .captureNow → i = .captureNow) ∧ ∀ s, Reply.Fits c s (body s) := by
  cases i
  all_goals cases row
  case identify => exact ⟨.identify, _, fun _ => rfl, rfl, rfl, nofun, fun s => .keep rfl⟩
  case readStatus =>
    exact ⟨.readStatus, _, fun _ => rfl, rfl, rfl, nofun, fun s => .keep (by rw [statusBytes_length]; rfl)⟩
  case readEvents => exact ⟨.readEvents, _, fun _ => rfl, rfl, rfl, nofun, fun s => .ok rfl rfl⟩
  case setEventMask mask =>
    refine ⟨.setEventMask, _, fun _ => rfl, rfl, rfl, nofun, fun s => ?_⟩
    split
    · exact .ok rfl rfl
    · exact .keep rfl
  case setParam number value =>
    refine ⟨.setParam, _, fun _ => rfl, rfl, rfl, nofun, fun s => ?_⟩
    split
    · exact .keep rfl
    · exact writeParam_fits _ _ s
  case getParam number =>
    refine ⟨.getParam, _, fun _ => rfl, rfl, rfl, nofun, fun s => ?_⟩
    split
    · exact .keep rfl
    · exact .keep rfl
  case channelEnable channel => exact ⟨.channelEnable, _, fun _ => rfl, rfl, rfl, nofun, channelCommand_fits rfl _ _⟩
  case channelDisable channel => exact ⟨.channelDisable, _, fun _ => rfl, rfl, rfl, nofun, channelCommand_fits rfl _ _⟩
  case channelRestart channel => exact ⟨.channelRestart, _, fun _ => rfl, rfl, rfl, nofun, channelCommand_fits rfl _ _⟩
  case testStart channels =>
    refine ⟨.testStart, _, fun _ => rfl, rfl, rfl, nofun, fun s => ?_⟩
    split
    · exact .keep rfl
    · exact .ok (by simp) rfl
  case testStop => exact ⟨.testStop, _, fun _ => rfl, rfl, rfl, nofun, fun s => .ok (by simp) rfl⟩
  case datumArm => exact ⟨.datumArm, _, fun _ => rfl, rfl, rfl, nofun, fun s => datumArm_fits _ _ _ _ _ s⟩
  case datumCancel => exact ⟨.datumCancel, _, fun _ => rfl, rfl, rfl, nofun, fun s => datumCancel_fits _ s⟩
  case readAxis axis =>
    refine ⟨.readAxis, _, fun _ => rfl, rfl, rfl, nofun, fun s => ?_⟩
    split
    · exact .keep rfl
    · exact .keep (by rw [axisBytes_length]; rfl)
  case captureNow =>
    exact ⟨.captureNow, _, fun _ => rfl, rfl, rfl, fun _ => rfl, fun s =>
      ⟨by simp, fun _ => responseBytes_unique rfl, fun other => absurd rfl other⟩⟩
  case tableInsert =>
    refine ⟨.tableInsert, _, fun _ => rfl, rfl, rfl, nofun, fun s => ?_⟩
    split
    · exact .keep rfl
    · split
      · exact insertInto_fits _ s
      · exact .keep rfl
  case tableDelete =>
    refine ⟨.tableDelete, _, fun _ => rfl, rfl, rfl, nofun, fun s => ?_⟩
    split
    · exact .keep rfl
    · split
      · exact .keep rfl
      · split
        · exact .keep rfl
        · split
          · exact .keep rfl
          · exact .ok rfl rfl
  case tableFlush =>
    refine ⟨.tableFlush, _, fun _ => rfl, rfl, rfl, nofun, fun s => ?_⟩
    split
    · exact .keep rfl
    · split
      · exact .keep rfl
      · refine .ok ?_ rfl
        split <;> rfl
  case tableRead =>
    refine ⟨.tableRead, _, fun _ => rfl, rfl, rfl, nofun, fun s => ?_⟩
    split
    · exact .keep rfl
    · split
      · exact .keep rfl
      · split
        · exact .keep rfl
        · exact .keep (by rw [entryBytes_length]; rfl)
  case scanOpen =>
    refine ⟨.scanOpen, _, fun _ => rfl, rfl, rfl, nofun, fun s => ?_⟩
    split
    · exact .keep rfl
    · split
      · exact .keep rfl
      · exact .ok rfl rfl
  case scanClose =>
    refine ⟨.scanClose, _, fun _ => rfl, rfl, rfl, nofun, fun s => ?_⟩
    split
    · exact .ok (by simp) rfl
    · exact .keep rfl
  case scanClear =>
    refine ⟨.scanClear, _, fun _ => rfl, rfl, rfl, nofun, fun s => ?_⟩
    split
    · exact .ok rfl rfl
    · exact .keep rfl
  case readRecord =>
    exact ⟨.readRecord, _, fun _ => rfl, rfl, rfl, nofun, fun s =>
      ⟨rfl, nofun, fun _ refused => absurd refused (ringRead_status _)⟩⟩
  case readException =>
    exact ⟨.readException, _, fun _ => rfl, rfl, rfl, nofun, fun s =>
      ⟨rfl, nofun, fun _ refused => absurd refused (ringRead_status _)⟩⟩
  case restart => exact ⟨.restart, _, fun _ => rfl, rfl, rfl, nofun, fun s => .ok rfl rfl⟩
  all_goals exact ⟨.setParam, _, fun _ => rfl, rfl, rfl, nofun, fun s => writeParam_fits _ _ s⟩

/-- Outside a transaction that waits for its command, a command is ignored. -/
theorem exec_of_not_waits {s : State} {i : Instr} (command : (summaryRow i).isSome = true ∨ ∃ b, i = .unknownCommand b)
    (idle : ¬ s.Waits) : exec i s = .next s := by
  rcases command with known | ⟨b, rfl⟩
  · obtain ⟨⟨code, n⟩, row⟩ := Option.isSome_iff_exists.mp known
    obtain ⟨c, body, run, -⟩ := summaryRow_served row
    exact (run s).trans (takeCommand_of_not_waits idle c body)
  · show execUnknownCommand b s = _
    rcases not_waits idle with low | none | ⟨t, some, taken⟩
    · exact live_of_low low _
    · simp [execUnknownCommand, live, none]
    · simp [execUnknownCommand, live, some, taken]

/-- Settles O2: `live` and `takeCommand` ignore what they say, and MP_SEL moves the transaction. -/
theorem transactionsBeginEndAndIgnore : Obligations.TransactionsBeginEndAndIgnore := by
  refine ⟨⟨fun s i => exec_of_low, fun s i => exec_of_not_waits⟩, fun s high idle => ?_, fun s high selected => ?_,
    fun s n high main exc => ?_, fun s b waits unknown => exec_unknown waits (knownCode_of_no_row unknown)⟩
  · rw [execTransactionBegin_of_high high, beginTransaction, if_neg (by simp [idle])]
  · rw [execTransactionBegin_of_high high, beginTransaction, if_pos selected]
  · rw [execTransactionEnd_of_high high, endTransaction_of_no_head main exc]

/-- Settles O3: the answer stands in the transaction, from which MP_MISO shifts it out behind code and arguments. -/
theorem everyCommandIsAnswered : Obligations.EveryCommandIsAnswered := by
  refine ⟨fun s i code n row waits => ?_, fun s k none => State.mpMiso_none none k, fun s k high idle => ?_, fun s held k =>
    ⟨resetPart held s, rfl, State.mpMiso_none rfl k⟩⟩
  · obtain ⟨c, body, run, rfl, rfl, -, fits⟩ := summaryRow_served row
    obtain ⟨mp, length, -⟩ := fits s
    refine ⟨_, (body s).status.code, (body s).data, (run s).trans (answered waits rfl), ?_, length, ?_, ?_, ?_, ?_⟩
    · simp only [State.answer, mp]
    · intro k hk
      rw [State.mpMiso_some rfl, Transaction.shiftOut_arguments _ hk]
    · rw [State.mpMiso_some rfl]
      exact Transaction.shiftOut_answer _ 0
    · intro k b hb
      rw [State.mpMiso_some rfl, show 2 + c.arguments + k = 1 + c.arguments + (k + 1) by omega]
      refine (Transaction.shiftOut_answer _ _).trans ?_
      simp [hb]
    · intro k hk
      obtain ⟨m, rfl⟩ : ∃ m, k = 1 + c.arguments + (m + 1) := ⟨k - (2 + c.arguments), by omega⟩
      rw [State.mpMiso_some rfl]
      refine (Transaction.shiftOut_answer _ _).trans ?_
      simp only [List.getD_cons_succ]
      exact List.getD_eq_default _ _ (by omega)
  · refine ⟨_, execTransactionBegin_of_high high, ?_⟩
    rw [beginTransaction, if_neg (by simp [idle]), State.mpMiso_some rfl]
    unfold Transaction.shiftOut
    split <;> rfl

/-- Settles O4: a reply that fits the summary changes nothing with such a status. -/
theorem refusalsChangeNothing : Obligations.RefusalsChangeNothing := by
  intro s t i code n st data row other waits run out refused
  obtain ⟨c, body, runs, rfl, rfl, isCapture, fits⟩ := summaryRow_served row
  rw [runs, answered waits rfl] at run
  cases run
  simp only [State.answer, Option.some.injEq, Transaction.mk.injEq, List.cons.injEq, true_and] at out
  obtain ⟨rfl, rfl⟩ := out
  rw [(fits s).unchanged (fun h => other (isCapture h)) refused]

/-! ## Ring reads -/

theorem Ring.read_nil {ring : Ring} (h : ring.records = []) : ring.read = (ring, .empty, beNat 2 0) := by
  unfold Ring.read; rw [h]

theorem Ring.read_cons {ring : Ring} {r : Record} {rest : List Record} (h : ring.records = r :: rest) :
    ring.read = ({ ring with headUnderRead := true }, .ok, beNat 2 (rest.length + 1) ++ r.bytes) := by
  unfold Ring.read
  rw [h]
  rfl

theorem endTransaction_of_main {s : State} {tr : Transaction} (h : s.mp.transaction = some tr)
    (main : s.main.headUnderRead = true) (exc : s.exc.headUnderRead = false) (n : Nat) :
    endTransaction n s =
      if tr.out.length ≤ n then
        holdCompare
          { s with
            mp := { selected := false, transaction := none }
            main := { s.main with records := s.main.records.tail, headUnderRead := false } }
      else
        { s with mp := { selected := false, transaction := none }, main := { s.main with headUnderRead := false } } := by
  unfold endTransaction endExceptionRead endMainRead
  simp only [h, main]
  by_cases complete : tr.out.length ≤ n <;> simp [complete, exc, Ring.endRead]

theorem endTransaction_of_exception {s : State} {tr : Transaction} (h : s.mp.transaction = some tr)
    (exc : s.exc.headUnderRead = true) (main : s.main.headUnderRead = false) (n : Nat) :
    endTransaction n s =
      { s with
        mp := { selected := false, transaction := none }
        exc :=
          { s.exc with
            records := if tr.out.length ≤ n then s.exc.records.tail else s.exc.records, headUnderRead := false } } := by
  unfold endTransaction endExceptionRead endMainRead
  simp [h, main, exc, Ring.endRead]

/-! ## The bytes of a record -/

/-- The parts of a record behind its presence byte (R190). -/
def Record.parts (r : Record) : List Byte :=
  r.axes.flatMap RecordAxis.bytes ++ directionBytes r.direction ++ matchBytes r.matchPart ++ reasonBytes r.reason
    ++ summaryBytes r.kind.summary

theorem RecordAxis.bytes_eq (a : RecordAxis) :
    a.bytes = be 1 (a.axis : Nat) ++ be 8 a.value ++ be 2 a.epoch ++ be 1 a.state.number
      ++ (match a.velocity with
        | none => [0, 0, 0, 0, 0]
        | some v => 1 :: be 4 v : List Byte) := by
  rw [RecordAxis.bytes, beNat, beNat, beNat, axisState_code_eq_number]
  cases a.velocity <;> simp [beBool, be]

theorem directionBytes_eq (d : Option LineDirection) :
    directionBytes d =
      (match d with
      | none => []
      | some .forward => [0]
      | some .reverse => [1]
      | some .unknown => [2] : List Byte) := by
  rcases d with _ | _ | _ | _ <;> rfl

theorem matchBytes_eq (m : Option MatchPart) :
    matchBytes m =
      (match m with
      | none => []
      | some m =>
        (match m.result with
          | .matched => (0 : Byte)
          | .double => 1
          | .stray => 2
          | .outOfOrder => 3) :: (be 2 (m.index.getD 0) ++ be 8 (m.deviation.getD 0))) := by
  rcases m with _ | ⟨result, index, deviation⟩
  · rfl
  · cases result <;> cases index <;> rfl

theorem reasonBytes_eq (r : Option Reason) :
    reasonBytes r =
      (match r with
      | none => []
      | some .outsideScan => [1]
      | some .axisNotReferenced => [2]
      | some .noVelocity => [3]
      | some .fast => [4]
      | some .stray => [5]
      | some .double => [6]
      | some .outOfOrder => [7] : List Byte) := by
  rcases r with _ | r
  · rfl
  · cases r <;> rfl

theorem summaryBytes_eq (kind : CaptureKind) :
    summaryBytes kind.summary =
      (match kind with
      | .scanEnd q =>
        be 2 q.matched ++ be 2 q.stray ++ be 2 q.double ++ be 2 q.outOfOrder ++ be 2 q.missed
          ++ (match q.cause with
            | .stopReached => [1]
            | .closed => [2]
            | .axisBroken => [3]
            | .laserUnlock => [4] : List Byte)
      | _ => []) := by
  rcases kind with _ | _ | _ | ⟨_, _, _, _, _, cause⟩
  case scanEnd => cases cause <;> rfl
  all_goals rfl

theorem kindBytes_eq (kind : CaptureKind) :
    beNat 1 kind.kindCode ++ beNat 1 kind.sourceCode =
      (match kind with
      | .line .line0 _ => [0, 0]
      | .line .line1 _ => [0, 1]
      | .strobe .command => [1, 2]
      | .strobe .servo => [1, 3]
      | .datum .ref0 => [2, 4]
      | .datum .ref1 => [2, 5]
      | .datum .immediate => [2, 6]
      | .scanEnd _ => [3, 7] : List Byte) := by
  cases kind
  case line input mark => cases input <;> rfl
  case strobe source => cases source <;> rfl
  case datum source => cases source <;> rfl
  case scanEnd => rfl

theorem presence_eq (r : Record) :
    r.presence =
      (if r.direction.isSome then 1 else 0) + (if r.matchPart.isSome then 2 else 0) + (if r.reason.isSome then 4 else 0)
        + (match r.kind with
          | .scanEnd _ => 8
          | _ => 0) := by
  unfold Record.presence
  cases r.kind <;> rfl

theorem Record.parts_length (r : Record) :
    r.parts.length =
      17 * r.axes.length + (if r.direction.isSome then 1 else 0) + (if r.matchPart.isSome then 11 else 0)
        + (if r.reason.isSome then 1 else 0) + (match r.kind with
          | .scanEnd _ => 11
          | _ => 0) := by
  have whole := r.bytes_length
  have split : r.bytes.length = 23 + r.parts.length := by
    simp only [Record.bytes, Record.body, Record.parts, List.length_append, beNat_length, be_length]
    omega
  have summary : (if r.kind.summary.isSome then 11 else 0) = (match r.kind with
      | .scanEnd _ => 11
      | _ => 0) := by
    cases r.kind <;> rfl
  omega

theorem Record.bytes_eq_parts (r : Record) :
    r.bytes =
      be 2 (23 + r.parts.length) ++ be 4 r.seq.toNat ++ (beNat 1 r.kind.kindCode ++ beNat 1 r.kind.sourceCode)
        ++ be 4 r.gate.toNat ++ be 1 r.scanId ++ be 4 r.n ++ be 2 r.flags.code ++ be 2 r.lostBefore ++ be 1 r.axes.length
        ++ be 1 r.presence ++ r.parts := by
  have length : r.body.length + 2 = 23 + r.parts.length := by
    simp only [Record.body, Record.parts, List.length_append, beNat_length, be_length]
    omega
  rw [Record.bytes, length]
  simp only [Record.body, Record.parts, beNat, List.append_assoc, Nat.cast_add, Nat.cast_ofNat]

/-- Settles O5: a read shows the head, the end of its transaction removes it, and the encoding is part by part the
table's. -/
theorem ringReadsReturnAndRemoveTheHead : Obligations.RingReadsReturnAndRemoveTheHead := by
  refine ⟨⟨fun s waits empty => ?_, fun s waits empty => ?_, fun s r rest waits held => ?_,
    fun s r rest waits held => ?_⟩, fun s tr n high transaction => ⟨fun main exc => ⟨fun complete => ?_, fun short => ?_⟩,
    fun exc main => ?_⟩, fun r => ⟨r.parts, r.flags.code, r.presence, rfl, presence_eq r, ?_, ?_, ?_, r.parts_length⟩⟩
  · show execReadRecord s = _
    rw [execReadRecord, answered waits rfl, Ring.read_nil empty]
    rfl
  · show execReadException s = _
    rw [execReadException, answered waits rfl, Ring.read_nil empty]
    rfl
  · show execReadRecord s = _
    rw [execReadRecord, answered waits rfl, Ring.read_cons held]
    rfl
  · show execReadException s = _
    rw [execReadException, answered waits rfl, Ring.read_cons held]
    rfl
  · rw [execTransactionEnd_of_high high, endTransaction_of_main transaction main exc, if_pos complete]
  · rw [execTransactionEnd_of_high high, endTransaction_of_main transaction main exc, if_neg (Nat.not_le.mpr short)]
  · rw [execTransactionEnd_of_high high, endTransaction_of_exception transaction exc main]
  · rw [Record.parts, directionBytes_eq, matchBytes_eq, reasonBytes_eq, summaryBytes_eq]
    rw [show RecordAxis.bytes = _ from funext RecordAxis.bytes_eq] <;> rfl
  · refine r.bytes_eq_parts.trans ?_
    rw [kindBytes_eq] <;> rfl
  · simp only [Record.bytes, Record.body, Record.parts, List.length_append, beNat_length, be_length]
    omega

end Sys2Proof.Machine
end

section
/-! PROOFS. Rounding and fields (R49), samples and channels (R7, R10 to R24), and how breaks reach axes and scan (R70,
R153). -/

namespace Sys2Proof.Machine

/-! ## Rounding and big-endian fields -/

theorem roundDiv_of_nonneg {n d : Int} (h : 0 ≤ n) : roundDiv n d = (2 * n + d) / (2 * d) := if_pos h

theorem isRounded_of_nonneg {n d : Int} (hd : 0 < d) (hn : 0 ≤ n) : IsRounded n d (roundDiv n d) := by
  rw [roundDiv_of_nonneg hn]
  have parts := Int.mul_ediv_add_emod (2 * n + d) (2 * d)
  have low := Int.emod_nonneg (2 * n + d) (show 2 * d ≠ 0 by omega)
  have high := Int.emod_lt_of_pos (2 * n + d) (show 0 < 2 * d by omega)
  have twice : 2 * d * ((2 * n + d) / (2 * d)) = 2 * ((2 * n + d) / (2 * d) * d) := by ring
  refine ⟨by omega, by omega, fun tie => ?_, fun tie => by omega⟩
  rcases Int.lt_or_eq_of_le hn with pos | zero
  · exact pos
  · subst zero
    rw [Int.ediv_eq_zero_of_lt (by omega) (by omega)] at tie
    omega

theorem roundDiv_neg (n d : Int) (hd : 0 < d) : roundDiv (-n) d = -roundDiv n d := by
  rcases Int.lt_trichotomy n 0 with neg | zero | pos
  · simp only [roundDiv, show 0 ≤ -n by omega, show ¬ 0 ≤ n by omega, if_true, if_false]
    omega
  · subst zero
    rw [roundDiv_of_nonneg (by decide), Int.ediv_eq_zero_of_lt (by omega) (by omega)]
    simp [roundDiv, Int.ediv_eq_zero_of_lt (show 0 ≤ d by omega) (show d < 2 * d by omega)]
  · simp only [roundDiv, show ¬ 0 ≤ -n by omega, show 0 ≤ n by omega, if_true, if_false, Int.neg_neg]

theorem IsRounded.neg {n d q : Int} (h : IsRounded n d q) : IsRounded (-n) d (-q) := by
  obtain ⟨low, high, tieLow, tieHigh⟩ := h
  have : -q * d = -(q * d) := by ring
  exact ⟨by omega, by omega, fun tie => by have := tieHigh (by omega); omega,
    fun tie => by have := tieLow (by omega); omega⟩

/-- A quotient by a positive divisor is rounded to nearest with ties away from zero (R49). -/
theorem roundDiv_isRounded {d : Int} (hd : 0 < d) (n : Int) : IsRounded n d (roundDiv n d) := by
  rcases Int.le_total 0 n with nonneg | neg
  · exact isRounded_of_nonneg hd nonneg
  · have rounded := (isRounded_of_nonneg hd (show 0 ≤ -n by omega)).neg
    rwa [roundDiv_neg n d hd, Int.neg_neg, Int.neg_neg] at rounded

/-- Two rounded quotients of which one is larger would both be ties, each asking the other sign of the dividend. -/
theorem IsRounded.not_lt {n d q p : Int} (hq : IsRounded n d q) (hp : IsRounded n d p) : ¬ q < p := by
  intro less
  obtain ⟨_, lowQ, _, tieQ⟩ := hq
  obtain ⟨highP, _, tieP, _⟩ := hp
  have gap : d ≤ (p - q) * d ∨ d ≤ 0 := by
    rcases Int.lt_or_le 0 d with pos | nonpos
    · exact .inl (by nlinarith)
    · exact .inr nonpos
  have split : (p - q) * d = p * d - q * d := by ring
  rcases gap with gap | nonpos
  · have positive := tieP (by omega)
    have negative := tieQ (by omega)
    omega
  · by_cases same : d = 0
    · subst same
      have := tieP (by omega)
      have := tieQ (by omega)
      omega
    · omega

theorem IsRounded.unique {n d q p : Int} (hq : IsRounded n d q) (hp : IsRounded n d p) : q = p := by
  have := hq.not_lt hp
  have := hp.not_lt hq
  omega

theorem unsignedOf_append (l : List Byte) (b : Byte) : unsignedOf (l ++ [b]) = 256 * unsignedOf l + b.toNat := by
  simp [unsignedOf, List.foldl_append]

/-- The last base-256 digit and those before it make up a value modulo a power of 256. -/
theorem emod_mul_256 (v m : Int) (hm : 0 < m) : v % (256 * m) = 256 * (v / 256 % m) + v % 256 := by
  have digit := Int.mul_ediv_add_emod v 256
  have rest := Int.mul_ediv_add_emod (v / 256) m
  have low := Int.emod_nonneg (v / 256) (show m ≠ 0 by omega)
  have high := Int.emod_lt_of_pos (v / 256) hm
  have whole : v = 256 * (v / 256 % m) + v % 256 + 256 * m * (v / 256 / m) := by
    linear_combination -digit - 256 * rest
  conv_lhs => rw [whole]
  rw [Int.add_mul_emod_self_left, Int.emod_eq_of_lt (by omega) (by omega)]

/-- A field read back unsigned is its value modulo 256^n. -/
theorem unsignedOf_be (n : Nat) (v : Int) : ((unsignedOf (be n v) : Nat) : Int) = v % 256 ^ n := by
  induction n generalizing v with
  | zero => simp [be, unsignedOf]
  | succ n ih =>
    rw [be, unsignedOf_append, Nat.cast_add, Nat.cast_mul, ih, pow_succ', BitVec.toNat_ofInt]
    have byte : (((v % ((2 ^ 8 : Nat) : Int)).toNat : Nat) : Int) = v % 256 :=
      Int.toNat_of_nonneg (Int.emod_nonneg v (by decide))
    rw [byte, emod_mul_256 v _ (by positivity)]
    rfl

/-- Settles O11: `roundDiv` is rounded, two rounded quotients agree, and `be` is the base-256 expansion. -/
theorem numbersAreRoundedAndSentBigEndian : Obligations.NumbersAreRoundedAndSentBigEndian :=
  ⟨fun n d hd => ⟨roundDiv_isRounded hd n, fun _ hq => hq.unique (roundDiv_isRounded hd n), roundDiv_neg n d hd⟩,
    fun n v => ⟨be_length n v, unsignedOf_be n v⟩⟩

/-! ## Classification of a sample -/

theorem atRail_iff (s c : Int) : (atRail s || atRail c) = true ↔ s = -32768 ∨ s = 32767 ∨ c = -32768 ∨ c = 32767 := by
  simp [atRail, or_assoc]

/-- Settles O10: the corrected cosine is the difference of two rounded quotients, and `classify` tests in order. -/
theorem samplesAreCorrectedAndClassified : Obligations.SamplesAreCorrectedAndClassified := by
  intro p s c
  refine ⟨roundDiv ((c - p.offsetC) * p.gainC) 32768, roundDiv ((s - p.offsetS) * p.skew) 32768,
    roundDiv_isRounded (by decide) _, roundDiv_isRounded (by decide) _, fun rail => if_pos ((atRail_iff s c).mpr rail),
    fun clear => ?_⟩
  have off : ¬ (atRail s || atRail c) = true := fun rail => clear ((atRail_iff s c).mp rail)
  refine ⟨fun low => ?_, fun low high => ?_, fun low high => ?_⟩
  · exact (if_neg off).trans (if_pos low)
  · exact (if_neg off).trans ((if_neg (Int.not_lt.mpr low)).trans (if_pos high))
  · exact (if_neg off).trans ((if_neg (Int.not_lt.mpr low)).trans (if_neg (Int.not_lt.mpr high)))

/-! ## What a channel does with a sample -/

/-- The aligned count is the nearest in range with the phase as its remainder, the lower of two equally near (R13). -/
theorem alignCount_isAligned {held : Int} {phase : Nat} (range : inCountRange held = true) (h : phase < 1024) :
    IsAligned held phase (alignCount held phase) := by
  refine ⟨alignCount_range range, alignCount_mod h, fun w hw remainder => ?_⟩
  rw [inCountRange_iff] at range hw
  unfold alignCount
  simp only [inCountRange_iff]
  split_ifs <;> omega

theorem alignCount_near {held : Int} (phase : Nat) : (alignCount held phase - held).natAbs < 1024 := by
  unfold alignCount
  simp only
  split_ifs <;> omega

theorem phaseStep_range {phase last : Nat} (hp : phase < 1024) (hl : last < 1024) :
    -512 ≤ phaseStep phase last ∧ phaseStep phase last ≤ 511 := by
  unfold phaseStep
  simp only
  split_ifs <;> omega

section
variable {p : Params} {c : Fin 4} {pair : Int × Int} {ch : Channel}

theorem Channel.take_off (h : ch.state = .off) : ch.take p c pair = ch := by
  simp only [Channel.take, h]

theorem Channel.take_settling (h : ch.state = .settling) :
    ch.take p c pair = ch.settleSample (settleLength p) (classify (p.channel.get c) pair.1 pair.2) := by
  simp only [Channel.take, h]

theorem Channel.take_tracking (h : ch.state = .tracking) :
    ch.take p c pair = ch.trackSample p.lossPersist p.stepLimit (classify (p.channel.get c) pair.1 pair.2) := by
  simp only [Channel.take, h]

theorem Channel.take_lost (h : ch.state = .lost) :
    ch.take p c pair = ch.lostSample (classify (p.channel.get c) pair.1 pair.2) := by
  simp only [Channel.take, h]

/-- The completed settling run takes the channel to TRACKING with its count aligned (R12, R13). -/
theorem Channel.take_settled (h : ch.state = .settling) {φ : Nat}
    (good : classify (p.channel.get c) pair.1 pair.2 = .good φ) (full : settleLength p ≤ ch.settle + 1) :
    ch.take p c pair =
      { ch with state := .tracking, count := alignCount ch.count φ, lastPhase := φ, settle := 0, badRun := 0 } := by
  rw [Channel.take_settling h, good]
  exact if_pos full

/-- The bad sample that fills the run of bad samples takes the channel to LOST with its kind (R17, R18). -/
theorem Channel.take_persisted (h : ch.state = .tracking) {k : LossCause}
    (bad : classify (p.channel.get c) pair.1 pair.2 = .bad k) (full : p.lossPersist ≤ ch.badRun + 1) :
    ch.take p c pair = ch.lose k := by
  rw [Channel.take_tracking h, bad]
  exact if_pos full

end

/-- An accepted step, the count limit and a step above STEP_LIMIT, by the step itself (R14, R15, R16). -/
theorem Channel.unwrap_accepted {limit : Int} {phase : Nat} {ch : Channel} (nonneg : 0 ≤ limit)
    (within : (phaseStep phase ch.lastPhase).natAbs ≤ limit.toNat) :
    ch.unwrap limit phase =
      if 549755813887 < ch.count + phaseStep phase ch.lastPhase then
        { ch with count := 549755813887, lastPhase := phase }.lose .overrange
      else if ch.count + phaseStep phase ch.lastPhase < -549755813887 then
        { ch with count := -549755813887, lastPhase := phase }.lose .overrange
      else { ch with count := ch.count + phaseStep phase ch.lastPhase, lastPhase := phase, badRun := 0 } :=
  if_neg (by omega)

theorem Channel.unwrap_overspeed {limit : Int} {phase : Nat} {ch : Channel}
    (above : limit < (phaseStep phase ch.lastPhase).natAbs) : ch.unwrap limit phase = ch.lose .overspeed :=
  if_pos (by omega)

/-- Settles O13: `take` by the state of the channel and the classification of the pair. -/
theorem channelTakesASample : Obligations.ChannelTakesASample := by
  intro p c pair ch
  refine ⟨Channel.take_off, fun hs k bad => ?_, fun hs φ good => ⟨fun short => ?_, fun full range => ?_⟩,
    fun ht last φ good => ?_, fun ht k bad => ⟨fun short => ?_, fun full => Channel.take_persisted ht bad full⟩,
    fun hl overrange => ?_, fun hl cause => ⟨fun k bad => ?_, fun φ good => ?_⟩⟩
  · rw [Channel.take_settling hs, bad]; rfl
  · rw [Channel.take_settling hs, good]
    exact if_neg (Nat.not_le.mpr short)
  · exact ⟨_, alignCount_isAligned range (phase_lt_of_good good), Channel.take_settled hs good full⟩
  · have phase := phase_lt_of_good good
    have step := phaseStep_range phase last
    have same := @phaseStep_mod φ ch.lastPhase
    refine ⟨phase, phaseStep φ ch.lastPhase, step.1, step.2, by omega, fun within nonneg => ?_, fun above => ?_⟩
    · rw [Channel.take_tracking ht, good, Channel.trackSample, Channel.unwrap_accepted nonneg within]
      refine ⟨fun low high => ?_, fun high => ?_, fun low => ?_⟩
      · rw [if_neg (by omega), if_neg (by omega)]
      · rw [if_pos high]; rfl
      · rw [if_neg (by omega), if_pos low]; rfl
    · rw [Channel.take_tracking ht, good, Channel.trackSample, Channel.unwrap_overspeed above]; rfl
  · rw [Channel.take_tracking ht, bad]
    exact if_neg (Nat.not_le.mpr short)
  · rw [Channel.take_lost hl]
    unfold Channel.lostSample
    split
    · rfl
    · exact if_pos overrange
  · rw [Channel.take_lost hl, bad]; rfl
  · rw [Channel.take_lost hl, good]
    exact if_neg cause

/-! ## Flags -/

/-- A raise by its bit: the flag where the condition holds, nothing elsewhere (R174). -/
theorem raiseIf_eq (b : Bool) (f : Flag) (s : State) :
    raiseIf b f s = { s with events := { s.events with pending := s.events.pending ||| if b then f.set else 0 } } := by
  cases b with
  | true => rfl
  | false => simp

/-- Every flag pending before is pending after. -/
def FlagsGrow (s t : State) : Prop := ∀ f, s.flagPending f = true → t.flagPending f = true

theorem FlagsGrow.trans {s t u : State} (h : FlagsGrow s t) (g : FlagsGrow t u) : FlagsGrow s u := fun f hf => g f (h f hf)

theorem flagsGrow_raise (f : Flag) (s : State) : FlagsGrow s (raise f s) := fun g hg => by
  rw [flagPending_raise, hg, Bool.or_true]

theorem flagsGrow_raiseIf (b : Bool) (f : Flag) (s : State) : FlagsGrow s (raiseIf b f s) := by
  cases b
  · exact fun _ h => h
  · exact flagsGrow_raise f s

theorem flagPending_raise_self (f : Flag) (s : State) : (raise f s).flagPending f = true := by
  simp [flagPending_raise]

/-- What the blocks other than the Refractivity Unit do to the flags: they raise some, and never ENV_STALE. -/
structure RaisesOther (s t : State) : Prop where
  grow : FlagsGrow s t
  envStale : t.flagPending .envStale = s.flagPending .envStale

theorem RaisesOther.refl (s : State) : RaisesOther s s := ⟨fun _ h => h, rfl⟩

theorem RaisesOther.trans {s t u : State} (h : RaisesOther s t) (g : RaisesOther t u) : RaisesOther s u :=
  ⟨h.grow.trans g.grow, g.envStale.trans h.envStale⟩

theorem RaisesOther.of_events {s t : State} (h : t.events = s.events) : RaisesOther s t := by
  constructor
  · intro f hf
    rwa [State.flagPending, h]
  · rw [State.flagPending, h]; rfl

theorem RaisesOther.after {s s' t : State} (h : RaisesOther s' t) (first : s'.events = s.events) : RaisesOther s t :=
  (RaisesOther.of_events first).trans h

theorem raisesOther_raise {f : Flag} (h : f ≠ .envStale) (s : State) : RaisesOther s (raise f s) :=
  ⟨flagsGrow_raise f s, by rw [flagPending_raise, decide_eq_false (Ne.symm h), Bool.false_or]⟩

theorem raisesOther_raiseIf {f : Flag} (h : f ≠ .envStale) (b : Bool) (s : State) : RaisesOther s (raiseIf b f s) := by
  cases b
  · exact .refl s
  · exact raisesOther_raise h s

theorem acceptCapture_raises (kind : CaptureKind) (latch : Latch) (s : State) :
    RaisesOther s (acceptCapture kind latch s) := by
  unfold acceptCapture
  split
  · exact .of_events rfl
  · exact .after (raisesOther_raise (by decide) _) rfl

theorem endScan_raises (cause : EndCause) (s : State) : RaisesOther s (endScan cause s) := by
  cases h : s.openScan with
  | none => rw [endScan_none h]; exact .refl s
  | some d =>
    rw [endScan_some h]
    have closed : RaisesOther s (closeScan d cause s) := .of_events rfl
    exact closed.trans ((acceptCapture_raises _ _ _).trans (raisesOther_raise (by decide) _))

/-! ## Breaks -/

theorem any_indices (p : Fin 4 → Bool) : indices.any p = true ↔ ∃ j, p j = true := by
  simp [List.any_eq_true]

/-- Exactly a REFERENCED axis with a weighted channel whose break number moved away from the datum's breaks (R70). -/
theorem axisBreaks_iff (s : State) (after : Four Channel) (j : Fin 4) :
    axisBreaks s after j = true ↔ (s.axes.get j).state = .referenced ∧
      ∃ c, weighted s.params j c = true ∧ (after.get c).breaks ≠ (s.channels.get c).breaks ∧
        (after.get c).breaks ≠ (s.axes.get j).datumBreaks.get c := by
  simp [axisBreaks, and_assoc]

/-- The channels and the axes that their change breaks, with AXIS_BROKEN raised, before the scan takes the break. -/
def markBroken (after : Four Channel) (s : State) : State :=
  raiseIf (indices.any (axisBreaks s after)) .axisBroken
    { s with
      channels := after
      axes := s.axes.mapIdx fun j a => if axisBreaks s after j then { a with state := .broken } else a }

theorem setChannels_eq (after : Four Channel) (s : State) :
    setChannels after s = breakNotice (axisBreaks s after) (markBroken after s) := rfl

theorem markBroken_eq (after : Four Channel) (s : State) :
    markBroken after s =
      { s with
        channels := after
        axes := s.axes.mapIdx fun j a => if axisBreaks s after j then { a with state := .broken } else a
        events := { s.events with
          pending := s.events.pending ||| (if ∃ j, axisBreaks s after j = true then 16 else 0) } } := by
  rw [markBroken, raiseIf_eq]
  simp only [any_indices]
  rfl

theorem markBroken_openScan (after : Four Channel) (s : State) : (markBroken after s).openScan = s.openScan :=
  State.openScan_of_scan (by simp [markBroken])

theorem setChannels_of_unbroken {after : Four Channel} {s : State}
    (h : ∀ d, s.openScan = some d → axisBreaks s after d.axis = false) : setChannels after s = markBroken after s := by
  rw [setChannels_eq, breakNotice, markBroken_openScan]
  split
  next => rfl
  next d hd => rw [h d hd]; rfl

theorem setChannels_of_broken {after : Four Channel} {s : State} {d : Descriptor} (isOpen : s.openScan = some d)
    (broken : axisBreaks s after d.axis = true) : setChannels after s = endScan .axisBroken (markBroken after s) := by
  rw [setChannels_eq, breakNotice, markBroken_openScan, isOpen]
  exact if_pos broken

theorem mapIdx_id {α : Type} (f : Four α) : (f.mapIdx fun _ a => a) = f := Four.ext_get fun j => by simp

/-- A change of the channels that breaks no axis changes nothing else. -/
theorem setChannels_of_none {after : Four Channel} {s : State} (h : ∀ j, axisBreaks s after j = false) :
    setChannels after s = { s with channels := after } := by
  rw [setChannels_of_unbroken fun d _ => h d.axis, markBroken_eq]
  simp [h, mapIdx_id]

theorem markBroken_raises (after : Four Channel) (s : State) : RaisesOther s (markBroken after s) :=
  .after (raisesOther_raiseIf (by decide) _ _) rfl

theorem setChannels_raises (after : Four Channel) (s : State) : RaisesOther s (setChannels after s) := by
  have marked := markBroken_raises after s
  rw [setChannels_eq, breakNotice]
  split
  · exact marked
  · split
    · exact marked.trans (endScan_raises _ _)
    · exact marked

theorem setChannels_get (after : Four Channel) (s : State) (j : Fin 4) :
    (setChannels after s).axes.get j =
      if axisBreaks s after j then { s.axes.get j with state := .broken } else s.axes.get j := by
  rw [setChannels_frame]
  simp

/-- AXIS_BROKEN is raised where a change of the channels breaks an axis. -/
theorem setChannels_axisBroken {after : Four Channel} {s : State} {j : Fin 4} (h : axisBreaks s after j = true) :
    (setChannels after s).flagPending .axisBroken = true := by
  have marked : (markBroken after s).flagPending .axisBroken = true := by
    rw [markBroken, (any_indices _).mpr ⟨j, h⟩]
    exact flagPending_raise_self _ _
  rw [setChannels_eq, breakNotice]
  split
  · exact marked
  · split
    · exact (endScan_raises _ _).grow _ marked
    · exact marked

/-- The end of a scan by its fields (R151). -/
theorem endScan_scan {cause : EndCause} {s : State} {d : Descriptor} (h : s.openScan = some d) :
    (endScan cause s).scan =
      { s.scan with state := cause.state, endCause := some cause, missed := some (missedCount d s.matcher.table) } := by
  rw [endScan_some h]
  simp [closeScan]

theorem endScan_scanEnded {cause : EndCause} {s : State} {d : Descriptor} (h : s.openScan = some d) :
    (endScan cause s).flagPending .scanEnded = true := by
  rw [endScan_some h]
  exact flagPending_raise_self _ _

theorem State.descriptor_of_openScan {s : State} {d : Descriptor} (h : s.openScan = some d) : s.scan.descriptor = some d := by
  unfold State.openScan at h
  split at h
  · exact h
  · cases h

/-- Settles O17: the axes that `axisBreaks` names are marked, and the scan takes the notice of them. -/
theorem breaksReachTheAxesAndTheScan : Obligations.BreaksReachTheAxesAndTheScan := by
  intro s after
  refine ⟨axisBreaks s after, axisBreaks_iff s after, ⟨markBroken after s, ?_, fun j => ?_, setChannels_of_unbroken,
    fun d => setChannels_of_broken⟩, by simp, setChannels_get after s, fun ⟨j, hj⟩ => setChannels_axisBroken hj,
    setChannels_of_none, fun unbroken => ?_, fun d isOpen broken => ?_⟩
  · rw [markBroken_eq]
  · simp [markBroken]
  · rw [setChannels_of_unbroken unbroken, markBroken_eq]
  · have marked := (markBroken_openScan after s).trans isOpen
    rw [setChannels_of_broken isOpen broken, endScan_scan marked]
    refine ⟨rfl, rfl, ?_, endScan_scanEnded marked⟩
    exact State.descriptor_of_openScan marked

/-! ## Channel commands -/

theorem memberOf_of_toNat {b : Byte} {c : Fin 4} (h : b.toNat = c) : memberOf b = some c := by
  rw [memberOf, dif_pos (h ▸ c.isLt)]
  exact congrArg some (Fin.ext h)

theorem memberOf_none {b : Byte} (h : 4 ≤ b.toNat) : memberOf b = none := dif_neg (Nat.not_lt.mpr h)

theorem channelCommand_member {b : Byte} {c : Fin 4} (h : b.toNat = c) (f : Channel → Channel) (s : State) :
    channelCommand b f s = .ok (setChannels (s.channels.set c (f (s.channels.get c))) s) := by
  rw [channelCommand, memberOf_of_toNat h]

theorem channelCommand_none {b : Byte} (h : 4 ≤ b.toNat) (f : Channel → Channel) (s : State) :
    channelCommand b f s = .keep s .badArgument := by
  rw [channelCommand, memberOf_none h]

/-- ENABLE moves no break number, so it breaks no axis. -/
theorem enable_breaks_none (s : State) (c j : Fin 4) :
    axisBreaks s (s.channels.set c (s.channels.get c).enable) j = false := by
  have same : ∀ k, ((s.channels.set c (s.channels.get c).enable).get k).breaks = (s.channels.get k).breaks := by
    intro k
    rw [Four.get_set]
    split
    next hk =>
      subst hk
      unfold Channel.enable Channel.fresh
      split <;> rfl
    next => rfl
  rw [← Bool.not_eq_true, axisBreaks_iff]
  rintro ⟨-, k, -, moved, -⟩
  exact moved (same k)

/-- Settles O16: `channelCommand` replaces the channel named, and refuses a code that names none. -/
theorem channelCommandsActOnTheirChannel : Obligations.ChannelCommandsActOnTheirChannel := by
  refine fun s b waits => ⟨fun c hb => ⟨?_, ?_, ?_⟩, fun hb => ⟨?_, ?_, ?_⟩⟩
  · show execChannelEnable b s = _
    rw [execChannelEnable, answered waits (channelCommand_member hb _ s), Reply.ok,
      setChannels_of_none (enable_breaks_none s c)]
    rfl
  · show execChannelDisable b s = _
    rw [execChannelDisable, answered waits (channelCommand_member hb _ s)]
    rfl
  · show execChannelRestart b s = _
    rw [execChannelRestart, answered waits (channelCommand_member hb _ s)]
    rfl
  · exact (answered waits (channelCommand_none hb _ s) : execChannelEnable b s = _)
  · exact (answered waits (channelCommand_none hb _ s) : execChannelDisable b s = _)
  · exact (answered waits (channelCommand_none hb _ s) : execChannelRestart b s = _)

/-! ## TEST START and TEST STOP -/

/-- The first enabled pattern, in the order of chapter 11 (R192). -/
theorem firstPattern_eq (p : Params) :
    firstPattern p =
      if p.testPatterns.getLsbD 0 then .constant else if p.testPatterns.getLsbD 1 then .shuttle
      else if p.testPatterns.getLsbD 2 then .dropout else if p.testPatterns.getLsbD 3 then .jump else .constant := rfl

/-- JUMP comes first exactly where it is the only pattern enabled. -/
theorem firstPattern_jump (p : Params) : (firstPattern p == .jump) = decide (p.testPatterns = 8) := by
  rw [firstPattern_eq]
  generalize p.testPatterns = patterns
  revert patterns
  decide

/-- Settles O18: the generator starts or stops, and the channels named change their source. -/
theorem testStartAndStopMoveSources : Obligations.TestStartAndStopMoveSources := by
  refine ⟨fun s b waits => ⟨fun refused => ?_, fun low high => ?_⟩, fun s waits => ?_⟩
  · exact (answered waits (if_pos refused) : execTestStart b s = _)
  · refine ⟨_, (answered waits (if_neg (by omega)) : execTestStart b s = _), ?_, fun c => ?_, ?_⟩
    · simp only [Reply.ok, setChannels_gen]
      split
      · rfl
      · rw [Generator.start, firstPattern_jump]; rfl
    · simp only [Reply.ok, setChannels_channels, startChannels_get, Bool.and_eq_true, beq_iff_eq]
      rfl
    · simp only [Reply.ok, setChannels_channels, setChannels_gen]
  · refine ⟨_, (answered waits rfl : execTestStop s = _), ?_, fun c => ?_, ?_⟩
    · simp only [Reply.ok, setChannels_gen]
    · simp only [Reply.ok, setChannels_channels, stopChannels_get]
      rfl
    · simp only [Reply.ok, setChannels_channels, setChannels_gen]

end Sys2Proof.Machine
end

section
/-! PROOFS. The arrival of a sample set: what it does to channels, generator, lock, axes and scan, and to the refractivity in
use (R1 to R3, R12, R13, R17, R28 to R31, R34, R41, R70, R153, R154, R193, R196). -/

namespace Sys2Proof.Machine

/-! ## The flags that the blocks raise -/

theorem handToMain_raises (r : Record) (s : State) : RaisesOther s (handToMain r s) := by
  unfold handToMain
  split
  · exact (RaisesOther.after (raisesOther_raise (by decide) _) rfl).trans (.of_events (holdCompare_events _))
  · exact .after (raisesOther_raise (by decide) _) rfl

theorem handToException_raises (r : Record) (s : State) : RaisesOther s (handToException r s) := by
  unfold handToException
  split
  · exact .after (raisesOther_raise (by decide) _) rfl
  · exact .after (raisesOther_raise (by decide) _) rfl

theorem takeCaptureReport_raises (s : State) : RaisesOther s (takeCaptureReport s) :=
  takeCaptureReport_keeps (P := RaisesOther s) (fun _ _ _ h => h.trans (.of_events rfl))
    (fun q t h => h.trans (.of_events (by rw [matchLine_frame]))) (fun r t h => h.trans (handToMain_raises r t))
    (fun r t h => h.trans (handToException_raises r t)) (.refl s)

theorem testScan_raises (r : GateReport) (s : State) : RaisesOther s (testScan r s) := by
  unfold testScan
  split
  · exact .refl s
  · split
    · split
      · exact .of_events rfl
      · exact .refl s
    · split
      · exact endScan_raises _ s
      · exact .refl s
    · exact .refl s
    · exact .refl s

theorem takeScanReport_raises (s : State) : RaisesOther s (takeScanReport s) := by
  unfold takeScanReport
  split
  · exact .refl s
  · exact .after (testScan_raises _ _) rfl

theorem datumCaptures_raises (s : State) (axes : List (Fin 4)) : RaisesOther s (datumCaptures s axes) := by
  induction axes generalizing s with
  | nil => exact .refl s
  | cons j rest ih => exact (acceptCapture_raises _ _ s).trans (ih _)

theorem applyDatums_raises (chosen : Fin 4 → Bool) (s : State) : RaisesOther s (applyDatums chosen s) := by
  have failed : RaisesOther s (raiseIf (indices.any fun j => chosen j && !s.allTracking j) .datumFailed
      (raiseIf (indices.any fun j => chosen j && s.allTracking j) .datumDone s)) :=
    (raisesOther_raiseIf (by decide) _ s).trans (raisesOther_raiseIf (by decide) _ _)
  refine (failed.trans (.of_events ?_)).trans (datumCaptures_raises _ _)
  rw [raiseIf_eq, raiseIf_eq, raiseIf_eq, raiseIf_eq]

theorem takeDatumReport_raises (s : State) : RaisesOther s (takeDatumReport s) := by
  unfold takeDatumReport
  split
  · have applied : RaisesOther s (applyDatums (fun j => (s.slots.get j).immediateArmed)
        { s with due := { s.due with datum := false } }) := .after (applyDatums_raises _ _) rfl
    exact applied.trans (.after (raisesOther_raiseIf (by decide) _ _) rfl)
  · exact .refl s

theorem takeHoldReport_raises (s : State) : RaisesOther s (takeHoldReport s) := by
  unfold takeHoldReport countHoldReport
  split
  · split
    · simp only
      split
      · exact .after (raisesOther_raise (by decide) _) rfl
      · exact .of_events rfl
    · exact .of_events rfl
  · exact .refl s

theorem takeTestReport_raises (s : State) : RaisesOther s (takeTestReport s) := by
  unfold takeTestReport countTestReport
  split
  · split
    · simp only
      split
      · exact .after (raisesOther_raise (by decide) _) rfl
      · exact .of_events rfl
    · exact .of_events rfl
  · exact .refl s

theorem frontEnd_raises (values : List (BitVec 16)) (s : State) : RaisesOther s (frontEnd values s) := by
  refine .trans ?_ (setChannels_raises _ _)
  exact .after (raisesOther_raiseIf (by decide) _ _) rfl

theorem lockArrive_raises (high : Bool) (s : State) : RaisesOther s (lockArrive high s) := by
  have flagged : RaisesOther s (raiseIf (s.lock.state == .locked && (s.lock.arrive (lockSettleLength s.params) high).state
      != .locked) .laserUnlocked { s with lock := s.lock.arrive (lockSettleLength s.params) high }) :=
    .after (raisesOther_raiseIf (by decide) _ _) rfl
  unfold lockArrive unlockNotice
  simp only
  split
  · exact flagged.trans (endScan_raises _ _)
  · exact flagged

/-- What is taken of a gate end behind the Refractivity Unit's part. -/
def takeBehindRefr (s : State) : State :=
  takeTestReport (takeHoldReport (takeDatumReport (takeScanReport (takeCaptureReport s))))

theorem takeAll_eq (s : State) : takeAll s = takeBehindRefr (takeGateEndRefr s) := rfl

theorem takeBehindRefr_raises (s : State) : RaisesOther s (takeBehindRefr s) :=
  ((((takeCaptureReport_raises s).trans (takeScanReport_raises _)).trans (takeDatumReport_raises _)).trans
    (takeHoldReport_raises _)).trans (takeTestReport_raises _)

theorem ageEnvironment_grows (s : State) : FlagsGrow s (ageEnvironment s) :=
  fun f hf => flagsGrow_raiseIf _ _ _ f hf

theorem refrArrive_grows (s : State) : FlagsGrow s (refrArrive s) :=
  fun f hf => flagsGrow_raiseIf _ _ _ f hf

theorem takeGateEndRefr_grows (s : State) : FlagsGrow s (takeGateEndRefr s) := by
  unfold takeGateEndRefr
  split
  · simp only
    split
    · exact fun _ h => h
    · exact fun f hf => ageEnvironment_grows _ f hf
  · exact fun _ h => h

theorem countArrival_grows (s : State) : FlagsGrow s (countArrival s) := by
  unfold countArrival
  split
  · exact fun _ h => h
  · exact fun f hf => ageEnvironment_grows _ f hf

theorem takeAll_grows (s : State) : FlagsGrow s (takeAll s) :=
  (takeGateEndRefr_grows s).trans (takeBehindRefr_raises _).grow

/-! ## What is left to take -/

theorem takeBehindRefr_refr (s : State) : (takeBehindRefr s).refr = s.refr := by simp [takeBehindRefr]

theorem takeGateEndRefr_of_taken {s : State} (h : s.due.refractivity = false) : takeGateEndRefr s = s := by
  simp [takeGateEndRefr, h]

theorem takeTestReport_of_taken {s : State} (h : s.due.test = false) : takeTestReport s = s := by
  simp [takeTestReport, h]

theorem takeDatumReport_of_taken {s : State} (h : s.due.datum = false) : takeDatumReport s = s := by
  simp [takeDatumReport, h]

theorem takeAll_gen {s : State} (h : s.due.test = false) : (takeAll s).gen = s.gen := by
  rw [takeAll, takeTestReport_of_taken (by simpa using h)]
  simp

theorem takeAll_axes {s : State} (h : s.due.datum = false) : (takeAll s).axes = s.axes := by
  simp only [takeAll, takeTestReport_axes, takeHoldReport_axes]
  rw [takeDatumReport_of_taken (by simpa using h)]
  simp

theorem takeAll_refr {s : State} (h : s.due.refractivity = false) : (takeAll s).refr = s.refr := by
  rw [takeAll_eq, takeGateEndRefr_of_taken h, takeBehindRefr_refr]

/-! ## The arrival by its row -/

/-- The part after the arrival that the eighth value brings, before blocks take a gate end that it may be. -/
def arrived (v : BitVec 16) (l : Bool) (s : State) : State := arrive (s.samplePort ++ [v]) l { s with samplePort := [] }

/-- The part when the arrival's channels take their samples: the last gate end is taken and the refractivity in use. -/
def readied (s : State) : State := refrArrive (takeAll { s with samplePort := [] })

theorem arrived_eq (v : BitVec 16) (l : Bool) (s : State) :
    arrived v l s = countArrival (lockArrive l (frontEnd (s.samplePort ++ [v]) (readied s))) := rfl

@[simp] theorem readied_params (s : State) : (readied s).params = s.params := by simp [readied]
@[simp] theorem readied_channels (s : State) : (readied s).channels = s.channels := by simp [readied]
@[simp] theorem readied_lock (s : State) : (readied s).lock = s.lock := by simp [readied]
@[simp] theorem readied_motion (s : State) : (readied s).motion = s.motion := by simp [readied]
@[simp] theorem readied_due (s : State) : (readied s).due = .nothing := by simp [readied]

theorem readied_gen {s : State} (h : s.due.test = false) : (readied s).gen = s.gen := by
  rw [readied, refrArrive_gen]
  exact takeAll_gen (s := { s with samplePort := [] }) h

theorem readied_axes {s : State} (h : s.due.datum = false) : (readied s).axes = s.axes := by
  rw [readied, refrArrive_axes]
  exact takeAll_axes (s := { s with samplePort := [] }) h

theorem exec_sampleRow {i : Instr} {v : BitVec 16} {l : Bool} (row : sampleRow i = some (v, l)) (s : State) :
    exec i s = live s (deliver v l) ∨ (i = .gateEnd v l ∧ exec i s = live s (deliverWhole v l)) := by
  cases i
  all_goals cases row
  case gateEnd => exact .inr ⟨rfl, rfl⟩
  all_goals exact .inl rfl

theorem deliver_held {v : BitVec 16} {l : Bool} {s : State} (short : s.samplePort.length < 7) :
    deliver v l s = { s with samplePort := s.samplePort ++ [v] } :=
  if_neg (by show ¬ 8 ≤ s.samplePort.length + 1; omega)

theorem deliver_arrived {v : BitVec 16} {l : Bool} {s : State} (full : s.samplePort.length = 7) :
    deliver v l s = arrived v l s :=
  if_pos (by show 8 ≤ s.samplePort.length + 1; omega)

theorem exec_held {s : State} {i : Instr} {v : BitVec 16} {l : Bool} (row : sampleRow i = some (v, l))
    (high : s.resetLow = false) (short : s.samplePort.length < 7) :
    exec i s = .next { s with samplePort := s.samplePort ++ [v] } := by
  rcases exec_sampleRow row s with run | ⟨-, run⟩
  · rw [run, live_of_high high, deliver_held short]
  · rw [run, live_of_high high, deliverWhole, if_neg (by show ¬ 8 ≤ s.samplePort.length + 1; omega), deliver_held short]

theorem arrived_due (v : BitVec 16) (l : Bool) {s : State} (h : s.motion.gateCounter + 1 ≠ s.motion.gateLength) :
    (arrived v l s).due = .nothing := by
  rw [arrived_eq, countArrival, if_neg (by simpa using h), ageEnvironment_frame]
  simp

/-- An eighth value is an arrival; under GATE_END, where it ends a gate, every block takes that gate end too. -/
theorem exec_arrival {s : State} {i : Instr} {v : BitVec 16} {l : Bool} (row : sampleRow i = some (v, l))
    (high : s.resetLow = false) (full : s.samplePort.length = 7) :
    exec i s = .next (arrived v l s) ∨
      (i = .gateEnd v l ∧ s.motion.gateCounter + 1 = s.motion.gateLength ∧
        exec i s = .next (takeAll (arrived v l s))) := by
  rcases exec_sampleRow row s with run | ⟨isEnd, run⟩
  · exact .inl (by rw [run, live_of_high high, deliver_arrived full])
  · have whole : exec i s = .next (takeAll (arrived v l s)) := by
      rw [run, live_of_high high, deliverWhole, if_pos (by show 8 ≤ s.samplePort.length + 1; omega), deliver_arrived full]
    by_cases gate : s.motion.gateCounter + 1 = s.motion.gateLength
    · exact .inr ⟨isEnd, gate, whole⟩
    · exact .inl (by rw [whole, takeAll_nothing (arrived_due v l gate)])

/-- Every row but GATE_END leaves the gate end that its arrival may bring to be taken. -/
theorem exec_arrival_left {s : State} {i : Instr} {v : BitVec 16} {l : Bool} (row : sampleRow i = some (v, l))
    (other : i ≠ .gateEnd v l ∨ s.motion.gateCounter + 1 ≠ s.motion.gateLength) (high : s.resetLow = false)
    (full : s.samplePort.length = 7) : exec i s = .next (arrived v l s) := by
  rcases exec_arrival row high full with run | ⟨isEnd, gate, -⟩
  · exact run
  · exact absurd gate (other.resolve_left (not_not_intro isEnd))

/-- What holds of the arrived part, and is kept where blocks take a gate end, holds after every row of the port. -/
theorem exec_arrival_keeps {P : State → Prop} {s : State} {i : Instr} {v : BitVec 16} {l : Bool}
    (row : sampleRow i = some (v, l)) (high : s.resetLow = false) (full : s.samplePort.length = 7)
    (arrival : P (arrived v l s)) (taken : P (arrived v l s) → P (takeAll (arrived v l s))) :
    ∃ t, exec i s = .next t ∧ P t := by
  rcases exec_arrival row high full with run | ⟨-, -, run⟩
  · exact ⟨_, run, arrival⟩
  · exact ⟨_, run, taken arrival⟩

/-! ## Channels and generator at an arrival -/

theorem getD_eq (l : List (BitVec 16)) (n : Nat) : (l[n]?).getD 0 = l.getD n 0 := (List.getD_eq_getElem?_getD ..).symm

theorem arrived_channel (v : BitVec 16) (l : Bool) (s : State) (c : Fin 4) :
    (arrived v l s).channels.get c =
      (s.channels.get c).take s.params c
        (selectPair (s.channels.get c).source
          (((s.samplePort ++ [v]).getD (2 * c) 0).toInt, ((s.samplePort ++ [v]).getD (2 * c + 1) 0).toInt)
          ((readied s).gen.pair s.params)) := by
  rw [arrived_eq, countArrival_channels, lockArrive_channels, frontEnd_frame]
  simp only [takeSet_get, Four.get_ofFn, pairOf, getD_eq, readied_channels, readied_params]

theorem arrived_channel_input (v : BitVec 16) (l : Bool) {s : State} {c : Fin 4}
    (input : (s.channels.get c).source = .input) :
    (arrived v l s).channels.get c =
      (s.channels.get c).take s.params c
        (((s.samplePort ++ [v]).getD (2 * c) 0).toInt, ((s.samplePort ++ [v]).getD (2 * c + 1) 0).toInt) := by
  rw [arrived_channel, input]; rfl

theorem arrived_channel_generator (v : BitVec 16) (l : Bool) {s : State} (untested : s.due.test = false) {c : Fin 4}
    (generator : (s.channels.get c).source = .generator) :
    (arrived v l s).channels.get c = (s.channels.get c).take s.params c (s.gen.pair s.params) := by
  rw [arrived_channel, generator, readied_gen untested]; rfl

theorem arrived_gen (v : BitVec 16) (l : Bool) {s : State} (untested : s.due.test = false) :
    (arrived v l s).gen = s.gen.arrive s.params := by
  rw [arrived_eq, countArrival_gen, lockArrive_gen, frontEnd_frame]
  simp only [readied_gen untested, readied_params]

/-- CHANNEL_LOST is raised where a channel enters LOST (R18). -/
theorem frontEnd_channelLost {values : List (BitVec 16)} {s : State} {c : Fin 4}
    (before : (s.channels.get c).state ≠ .lost) (lost : ((frontEnd values s).channels.get c).state = .lost) :
    (frontEnd values s).flagPending .channelLost = true := by
  have entered : someLost s.channels (takeSet s.params (.ofFn (pairOf values)) (s.gen.pair s.params) s.channels) = true := by
    rw [frontEnd_frame] at lost
    rw [someLost, List.any_eq_true]
    exact ⟨c, mem_indices c, Bool.and_eq_true_iff.mpr ⟨bne_iff_ne.mpr before, beq_iff_eq.mpr lost⟩⟩
  unfold frontEnd
  simp only [entered]
  exact (setChannels_raises _ _).grow _ (flagPending_raise_self _ _)

theorem frontEnd_arrived_grows (v : BitVec 16) (l : Bool) (s : State) :
    FlagsGrow (frontEnd (s.samplePort ++ [v]) (readied s)) (arrived v l s) :=
  (lockArrive_raises l _).grow.trans (countArrival_grows _)

theorem arrived_channelLost {v : BitVec 16} {l : Bool} {s : State} {c : Fin 4}
    (before : (s.channels.get c).state ≠ .lost) (lost : ((arrived v l s).channels.get c).state = .lost) :
    (arrived v l s).flagPending .channelLost = true := by
  refine frontEnd_arrived_grows v l s _ (frontEnd_channelLost (c := c) (by simpa using before) ?_)
  simpa [arrived_eq] using lost

/-- Settles O12: rows deliver a value; the eighth is the arrival, whose channels each take their own pair. -/
theorem valuesFormSetsAndArrivalsTakeThem : Obligations.ValuesFormSetsAndArrivalsTakeThem := by
  refine ⟨fun s i v l row high short => exec_held row high short, fun s i v l row high full => ?_⟩
  refine exec_arrival_keeps row high full ?_ ?_
  · exact ⟨by simp [arrived], by simp [arrived], fun c => arrived_channel_input v l,
      fun untested c => arrived_channel_generator v l untested, fun c => arrived_channelLost⟩
  · rintro ⟨port, params, input, generator, lost⟩
    refine ⟨by simpa using port, by simpa using params, by simpa using input, by simpa using generator, fun c hb ha => ?_⟩
    exact takeAll_grows _ _ (lost c hb (by simpa using ha))

/-! ## Settling and losses at an arrival -/

theorem settled_arrival {s : State} {v : BitVec 16} {l : Bool} {c : Fin 4} {φ : Nat} {pair : Int × Int}
    (high : s.resetLow = false) (full : s.samplePort.length = 7) (settling : (s.channels.get c).state = .settling)
    (range : inCountRange (s.channels.get c).count = true)
    (taken : (arrived v l s).channels.get c = (s.channels.get c).take s.params c pair)
    (good : classify (s.params.channel.get c) pair.1 pair.2 = .good φ)
    (complete : 2 ^ (12 + s.params.settleSel) ≤ (s.channels.get c).settle + 1) :
    ∃ (t : State) (aligned : Int), exec (.settleComplete v l) s = .next t ∧
      IsAligned (s.channels.get c).count φ aligned ∧ (aligned - (s.channels.get c).count).natAbs < 1024 ∧
      t.channels.get c =
        { s.channels.get c with state := .tracking, count := aligned, lastPhase := φ, settle := 0, badRun := 0 } :=
  ⟨_, _, exec_arrival_left (i := .settleComplete v l) rfl (.inl nofun) high full,
    alignCount_isAligned range (phase_lt_of_good good), alignCount_near φ,
    taken.trans (Channel.take_settled settling good complete)⟩

/-- The generator's phase and pair at an arrival, step by step (R193, R194). -/
theorem Generator.moved_psi (p : Params) (g : Generator) :
    ((g.moved p).psi : Int) =
      (g.psi + (g.beginPeriod p.testPeriod).rate p.testRate + (if g.jump then 512 else 0)) % 1024 := by
  have kept : (g.beginPeriod p.testPeriod).psi = g.psi ∧ (g.beginPeriod p.testPeriod).jump = g.jump := by
    unfold Generator.beginPeriod
    split <;> exact ⟨rfl, rfl⟩
  rw [Generator.moved, Generator.advancePhase, kept.1, kept.2]
  exact Int.toNat_of_nonneg (Int.emod_nonneg _ (by decide))

theorem Generator.pair_of_running {p : Params} {g : Generator} (running : g.running = true) :
    g.pair p = (sineOf ((g.moved p).amplitudeUsed p) (g.moved p).psi, cosineOf ((g.moved p).amplitudeUsed p) (g.moved p).psi) :=
  if_pos running

theorem Generator.arrive_of_running {p : Params} {g : Generator} (running : g.running = true) :
    g.arrive p = { g.moved p with position := (g.moved p).position + 1 } :=
  if_pos running

theorem Generator.beginPeriod_begun {period : Nat} {g : Generator} (h : period ≤ g.position) :
    g.beginPeriod period =
      { g with position := 0, reversed := if g.pattern = .shuttle then !g.reversed else g.reversed } := if_pos h

theorem Generator.beginPeriod_within {period : Nat} {g : Generator} (h : g.position < period) : g.beginPeriod period = g :=
  if_neg (Nat.not_le.mpr h)

/-- Settles O14: the arrival's sample completes the run, by the pair of the set or of the generator. -/
theorem settlingCompletesAligned : Obligations.SettlingCompletesAligned := by
  refine ⟨fun s v l c φ high full settling input range good complete => ?_, ?_⟩
  · exact settled_arrival high full settling range (arrived_channel_input v l input) good complete
  · rintro s v l c φ position amp psi reversed high full untested running settling generator range rfl rfl hpsi rfl good
      complete
    have begun : s.gen.beginPeriod s.params.testPeriod =
        { s.gen with
          position := if s.params.testPeriod ≤ s.gen.position then 0 else s.gen.position
          reversed :=
            if s.params.testPeriod ≤ s.gen.position ∧ s.gen.pattern = .shuttle then !s.gen.reversed
            else s.gen.reversed } := by
      by_cases h : s.params.testPeriod ≤ s.gen.position
      · rw [Generator.beginPeriod_begun h]; simp [h]
      · rw [Generator.beginPeriod_within (Nat.not_le.mp h)]; simp [h]
    have phase : (s.gen.moved s.params).psi = psi := by
      have moved := s.gen.moved_psi s.params
      rw [begun] at moved
      exact Int.ofNat_inj.mp (moved.trans hpsi.symm)
    refine settled_arrival high full settling range (arrived_channel_generator v l untested generator) ?_ complete
    rw [Generator.pair_of_running running, phase]
    rw [Generator.moved, begun]
    exact good

/-- Whether a change of the channels breaks an axis is read off the axes, the weights and the break numbers. -/
theorem axisBreaks_congr {s t : State} (axes : t.axes = s.axes) (params : t.params = s.params)
    (channels : t.channels = s.channels) (after : Four Channel) (j : Fin 4) :
    axisBreaks t after j = axisBreaks s after j := by
  unfold axisBreaks
  rw [axes, params, channels]

/-- The front end's part of an arrival breaks axes as its change of the channels does (R70). -/
theorem frontEnd_broken (values : List (BitVec 16)) (s : State) (j : Fin 4) :
    (frontEnd values s).axes.get j =
        (if axisBreaks s (frontEnd values s).channels j then { s.axes.get j with state := .broken } else s.axes.get j) ∧
      (axisBreaks s (frontEnd values s).channels j = true → (frontEnd values s).flagPending .axisBroken = true) := by
  unfold frontEnd
  simp only [setChannels_get, setChannels_channels, raiseIf_axes]
  have same := axisBreaks_congr (s := s)
    (t := raiseIf (someLost s.channels (takeSet s.params (.ofFn (pairOf values)) (s.gen.pair s.params) s.channels))
      .channelLost { s with gen := s.gen.arrive s.params })
    (by simp) (by simp) (by simp) (takeSet s.params (.ofFn (pairOf values)) (s.gen.pair s.params) s.channels) j
  exact ⟨by rw [same], fun broken => setChannels_axisBroken (same.trans broken)⟩

/-- An arrival with no datum left to apply breaks axes as its change of the channels does (R70). -/
theorem arrived_broken (v : BitVec 16) (l : Bool) {s : State} (untaken : s.due.datum = false) (j : Fin 4) :
    (arrived v l s).axes.get j =
        (if axisBreaks s (arrived v l s).channels j then { s.axes.get j with state := .broken } else s.axes.get j) ∧
      (axisBreaks s (arrived v l s).channels j = true → (arrived v l s).flagPending .axisBroken = true) := by
  have axes := readied_axes untaken
  obtain ⟨broken, flag⟩ := frontEnd_broken (s.samplePort ++ [v]) (readied s) j
  rw [axisBreaks_congr axes (readied_params s) (readied_channels s)] at broken flag
  refine ⟨?_, fun hb => frontEnd_arrived_grows v l s _ (flag ?_)⟩
  · simpa [arrived_eq, axes] using broken
  · simpa [arrived_eq] using hb

/-- Settles O15: the arrival's bad sample ends the tracking, and the moved break number breaks the axes. -/
theorem lossPersistEndsTracking : Obligations.LossPersistEndsTracking := by
  intro s v l c k high full tracking input bad complete
  have lost : (arrived v l s).channels.get c = (s.channels.get c).lose k :=
    (arrived_channel_input v l input).trans (Channel.take_persisted tracking bad complete)
  refine ⟨_, exec_arrival_left (i := .lossPersistReached v l) rfl (.inl nofun) high full,
    arrived_channelLost (c := c) (by rw [tracking]; decide) (by rw [lost]; rfl), lost, ?_⟩
  intro j referenced untaken weight same
  have broken : axisBreaks s (arrived v l s).channels j = true := by
    refine (axisBreaks_iff s _ j).mpr ⟨referenced, c, weight, ?_⟩
    rw [same, lost]
    exact ⟨(word_ne_succ _).symm, (word_ne_succ _).symm⟩
  obtain ⟨axis, flag⟩ := arrived_broken v l untaken j
  exact ⟨by rw [axis, if_pos broken], flag broken⟩

/-! ## The generator -/

theorem satSucc_min {n : Nat} (h : n ≤ 255) : satSucc 255 n = min (n + 1) 255 := by
  unfold satSucc
  split <;> omega

theorem pattern_bit_eq_number (x : Pattern) : x.bit = x.number := by cases x <;> rfl

/-- The pattern after another is the next enabled one in the cyclic order (R196). -/
theorem nextPattern_isNext (p : Params) (x : Pattern) :
    (p.testPatterns = 0 → nextPattern p x = .constant) ∧
      (p.testPatterns ≠ 0 → p.testPatterns.getLsbD (nextPattern p x).number = true ∧
        ∀ between : Pattern,
          (between.number + 4 - x.number - 1) % 4 < ((nextPattern p x).number + 4 - x.number - 1) % 4 →
          p.testPatterns.getLsbD between.number = false) := by
  unfold nextPattern
  generalize p.testPatterns = patterns
  have all : ∀ patterns : BitVec 4,
      (patterns = 0 → enabledFrom patterns 4 x.next = .constant) ∧
        (patterns ≠ 0 → patterns.getLsbD (enabledFrom patterns 4 x.next).number = true ∧
          ∀ between, between ∈ ([.constant, .shuttle, .dropout, .jump] : List Pattern) →
            (between.number + 4 - x.number - 1) % 4 < ((enabledFrom patterns 4 x.next).number + 4 - x.number - 1) % 4 →
            patterns.getLsbD between.number = false) := by
    cases x <;> decide
  refine ⟨(all patterns).1, fun some => ⟨((all patterns).2 some).1, fun between => ((all patterns).2 some).2 between ?_⟩⟩
  cases between <;> decide

/-- Settles O19: `arrive` and `pair` below and at the period, and the taking of a gate report by the generator. -/
theorem generatorPeriodsAndAdvances : Obligations.GeneratorPeriodsAndAdvances := by
  refine ⟨?_, fun s v l high full untested running reached => ?_, fun s high untested running => ⟨fun stays range => ?_,
    fun advances range reached => ⟨nextPattern s.params s.gen.pattern, ?_⟩⟩⟩
  · rintro s i v l amp row other high full untested running within rfl
    have same := Generator.beginPeriod_within within
    have gen : (arrived v l s).gen = { s.gen.advancePhase s.params.testRate with position := s.gen.position + 1 } := by
      rw [arrived_gen v l untested, Generator.arrive_of_running running, Generator.moved, same]; rfl
    refine ⟨_, exec_arrival_left row other high full, by rw [gen]; rfl, ?_, fun c generator => ?_⟩
    · rw [gen]
      have psi := s.gen.moved_psi s.params
      rw [Generator.moved, same] at psi
      exact psi
    · rw [arrived_channel_generator v l untested generator, Generator.pair_of_running running, Generator.moved, same, gen]
      rfl
  · have begun := Generator.beginPeriod_begun reached
    have gen : (arrived v l s).gen = { s.gen.moved s.params with position := 1 } := by
      rw [arrived_gen v l untested, Generator.arrive_of_running running, Generator.moved, begun]; rfl
    refine ⟨_, exec_arrival_left (i := .testPeriodEnd v l) rfl (.inl nofun) high full, by rw [gen], ?_, ?_, ?_, ?_, ?_, ?_,
      fun c generator => ?_⟩
    · rw [gen, Generator.moved, begun]; rfl
    · rw [gen]
      refine (s.gen.moved_psi s.params).trans ?_
      rw [begun, Generator.rate]
      cases s.gen.pattern <;> cases s.gen.reversed <;> rfl
    · rw [gen, Generator.moved, begun]; rfl
    · rw [gen, Generator.moved, begun]; rfl
    · rw [gen, Generator.moved, begun]; exact running
    · rw [gen, Generator.moved, begun]; rfl
    · rw [arrived_channel_generator v l untested generator, Generator.pair_of_running running, gen]
      have used : (s.gen.moved s.params).amplitudeUsed s.params =
          if s.gen.pattern = .dropout ∧ s.params.testPeriod ≤ s.params.testDrop then 0 else s.params.testAmp := by
        rw [Generator.moved, begun]
        simp [Generator.advancePhase, Generator.amplitudeUsed]
      rw [used]
  · show live s takeTestReport = _
    rw [live_of_high high, takeTestReport, if_pos untested, countTestReport, if_pos running]
    simp only [satSucc_min range]
    rw [if_neg (by omega)]
  · obtain ⟨none, some⟩ := nextPattern_isNext s.params s.gen.pattern
    refine ⟨none, some, ?_⟩
    show live s takeTestReport = _
    rw [live_of_high high, takeTestReport, if_pos untested, countTestReport, if_pos running]
    simp only [satSucc_min range]
    rw [if_pos ⟨advances, reached⟩]
    rfl

end Sys2Proof.Machine
end

section
/-! PROOFS. The laser lock, the refractivity in use and its age at an arrival, and the gate end (R28 to R31, R34, R41, R89 to
R99, R151, R153, R154). -/

namespace Sys2Proof.Machine

/-! ## The lock monitor -/

/-- The effective state leaves LOCKED exactly where the input is low, the monitor was LOCKED and nothing overrides it (R30,
R31). -/
theorem leavesLock_iff (s : State) (n : Nat) (high : Bool) :
    (s.effectiveLock = .locked ∧ ({ s with lock := s.lock.arrive n high } : State).effectiveLock ≠ .locked) ↔
      high = false ∧ s.lock.state = .locked ∧ s.params.lockOverride = false := by
  cases override : s.params.lockOverride with
  | true => simp [State.effectiveLock, override]
  | false =>
    cases high
    · simp [State.effectiveLock, override, LockMonitor.arrive]
    · cases state : s.lock.state <;> simp [State.effectiveLock, override, LockMonitor.arrive, state]

theorem acceptCapture_events (kind : CaptureKind) (latch : Latch) (s : State) (e : Events) :
    ∃ e', acceptCapture kind latch { s with events := e } = { acceptCapture kind latch s with events := e' } := by
  by_cases free : s.capture.inFlight.length < 8
  · exact ⟨e, by rw [acceptCapture_free free, acceptCapture_free (s := { s with events := e }) free]⟩
  · have full := Nat.le_of_not_lt free
    exact ⟨_, by rw [acceptCapture_full full, acceptCapture_full (s := { s with events := e }) full]; rfl⟩

/-- The end of a scan does not look at the flags. -/
theorem endScan_events (cause : EndCause) (s : State) (e : Events) :
    ∃ e', endScan cause { s with events := e } = { endScan cause s with events := e' } := by
  cases h : s.openScan with
  | none => exact ⟨e, by rw [endScan_none h, endScan_none (s := { s with events := e }) h]⟩
  | some d =>
    obtain ⟨e', he⟩ := acceptCapture_events (.scanEnd (scanSummary s.scan (missedCount d s.matcher.table) cause))
      (latchWith (closeScan d cause s) (some d.axis) d.id) (closeScan d cause s) e
    refine ⟨{ e' with pending := e'.pending ||| Flag.scanEnded.set }, ?_⟩
    rw [endScan_some h, endScan_some (s := { s with events := e }) h]
    exact congrArg (raise .scanEnded) he

/-- The lock monitor's part of an arrival, flags apart: its own step, and the end of the scan where lock is left (R154). -/
theorem lockArrive_eq (high : Bool) (s : State) :
    ∃ e, lockArrive high s =
      { (if high = false ∧ s.lock.state = .locked ∧ s.params.lockOverride = false then
          endScan .laserUnlock { s with lock := s.lock.arrive (lockSettleLength s.params) high }
        else { s with lock := s.lock.arrive (lockSettleLength s.params) high }) with events := e } := by
  have leaves := leavesLock_iff s (lockSettleLength s.params) high
  unfold lockArrive unlockNotice
  simp only [leaves]
  split
  · rw [raiseIf_eq]
    exact endScan_events .laserUnlock { s with lock := s.lock.arrive (lockSettleLength s.params) high } _
  · exact ⟨_, raiseIf_eq _ _ _⟩

theorem lockArrive_laserUnlocked {s : State} (locked : s.lock.state = .locked) :
    (lockArrive false s).flagPending .laserUnlocked = true := by
  have lost : (s.lock.state == .locked && (s.lock.arrive (lockSettleLength s.params) false).state != .locked) = true := by
    rw [locked]; rfl
  unfold lockArrive unlockNotice
  simp only [lost, raiseIf_true]
  split
  · exact (endScan_raises _ _).grow _ (flagPending_raise_self _ _)
  · exact flagPending_raise_self _ _

theorem arrived_lock (v : BitVec 16) (l : Bool) (s : State) :
    (arrived v l s).lock = s.lock.arrive (lockSettleLength s.params) l := by simp [arrived]

/-- The part when the Motion Monitor counts an arrival. -/
def settled (v : BitVec 16) (l : Bool) (s : State) : State := lockArrive l (frontEnd (s.samplePort ++ [v]) (readied s))

theorem arrived_settled (v : BitVec 16) (l : Bool) (s : State) : arrived v l s = countArrival (settled v l s) := rfl

/-! ## The scan at an arrival that leaves lock -/

/-- A scan that ended ABORTED, with its descriptor and its cause. -/
def AbortedBy (d : Descriptor) (s : State) : Prop :=
  s.scan.state = .aborted ∧ s.scan.descriptor = some d ∧
    (s.scan.endCause = some .laserUnlock ∨ s.scan.endCause = some .axisBroken)

theorem AbortedBy.of_eq {d : Descriptor} {s t : State} (h : AbortedBy d s) (same : t.scan = s.scan) : AbortedBy d t := by
  unfold AbortedBy
  rw [same]
  exact h

theorem abortedBy_endScan {s : State} {d : Descriptor} {cause : EndCause} (isOpen : s.openScan = some d)
    (h : cause = .laserUnlock ∨ cause = .axisBroken) : AbortedBy d (endScan cause s) := by
  have scan := endScan_scan (cause := cause) isOpen
  have descriptor := State.descriptor_of_openScan isOpen
  refine ⟨?_, by rw [scan]; exact descriptor, ?_⟩
  · rw [scan]; rcases h with rfl | rfl <;> rfl
  · rw [scan]; exact h.imp (congrArg some) (congrArg some)

theorem State.openScan_of_aborted {s : State} (h : s.scan.state = .aborted) : s.openScan = none := by
  simp [State.openScan, State.scanIsOpen, h]

/-- A change of the channels leaves an open scan open, or ends it as broken (R153). -/
theorem setChannels_openScan {after : Four Channel} {s : State} {d : Descriptor} (isOpen : s.openScan = some d) :
    (setChannels after s).openScan = some d ∨
      (AbortedBy d (setChannels after s) ∧ (setChannels after s).flagPending .scanEnded = true) := by
  have marked := (markBroken_openScan after s).trans isOpen
  by_cases broken : axisBreaks s after d.axis = true
  · rw [setChannels_of_broken isOpen broken]
    exact .inr ⟨abortedBy_endScan marked (.inr rfl), endScan_scanEnded marked⟩
  · refine .inl ?_
    rw [setChannels_of_unbroken fun d' hd => ?_]
    · exact marked
    · cases isOpen.symm.trans hd
      exact Bool.not_eq_true _ ▸ broken

/-- Lock left with a scan open or just ended leaves that scan ABORTED (R154). -/
theorem lockArrive_aborts {s : State} {d : Descriptor} (locked : s.lock.state = .locked)
    (override : s.params.lockOverride = false)
    (before : s.openScan = some d ∨ (AbortedBy d s ∧ s.flagPending .scanEnded = true)) :
    AbortedBy d (lockArrive false s) ∧ (lockArrive false s).flagPending .scanEnded = true := by
  have leaves := (leavesLock_iff s (lockSettleLength s.params) false).mpr ⟨rfl, locked, override⟩
  have run : lockArrive false s =
      endScan .laserUnlock (raiseIf (s.lock.state == .locked && (s.lock.arrive (lockSettleLength s.params) false).state !=
        .locked) .laserUnlocked { s with lock := s.lock.arrive (lockSettleLength s.params) false }) := if_pos leaves
  rcases before with isOpen | ⟨aborted, ended⟩
  · rw [run]
    have still := (State.openScan_of_scan (t := raiseIf (s.lock.state == .locked &&
      (s.lock.arrive (lockSettleLength s.params) false).state != .locked) .laserUnlocked
      { s with lock := s.lock.arrive (lockSettleLength s.params) false }) (s := s) (by simp)).trans isOpen
    exact ⟨abortedBy_endScan still (.inl rfl), endScan_scanEnded still⟩
  · refine ⟨aborted.of_eq ?_, (lockArrive_raises false s).grow _ ended⟩
    rw [run, endScan_none (State.openScan_of_aborted (by simpa using aborted.1))]
    simp

/-- What the front end's channels move in: the generator has taken the arrival and CHANNEL_LOST is raised. -/
def generated (v : BitVec 16) (s : State) : State :=
  raiseIf (someLost (readied s).channels (takeSet (readied s).params (.ofFn (pairOf (s.samplePort ++ [v])))
    ((readied s).gen.pair (readied s).params) (readied s).channels)) .channelLost
    { readied s with gen := (readied s).gen.arrive (readied s).params }

theorem settled_eq (v : BitVec 16) (l : Bool) (s : State) :
    settled v l s = lockArrive l (setChannels (settled v l s).channels (generated v s)) := by
  have channels : (settled v l s).channels = takeSet (readied s).params (.ofFn (pairOf (s.samplePort ++ [v])))
      ((readied s).gen.pair (readied s).params) (readied s).channels := by
    rw [settled, lockArrive_channels, frontEnd_frame]
  rw [channels]
  rfl

theorem readied_of_nothing {s : State} (untaken : s.due = .nothing) :
    readied s = refrArrive { s with samplePort := [] } := by
  rw [readied, takeAll_nothing (s := { s with samplePort := [] }) untaken]

theorem readied_scan {s : State} (untaken : s.due = .nothing) : (readied s).scan = s.scan := by
  rw [readied_of_nothing untaken, refrArrive_scan]

/-- With no gate end left to take, only the refractivity, the generator and flags have moved before the channels do. -/
theorem generated_frame (v : BitVec 16) {s : State} (untaken : s.due = .nothing) :
    generated v s =
      { s with
        samplePort := [], refr := s.refr.arrive, gen := s.gen.arrive s.params
        events := { s.events with pending := (generated v s).events.pending } } := by
  rw [generated, raiseIf_eq, readied_of_nothing untaken, refrArrive_frame]

theorem generated_lock (v : BitVec 16) (s : State) : (generated v s).lock = s.lock := by simp [generated]

theorem generated_params (v : BitVec 16) (s : State) : (generated v s).params = s.params := by simp [generated]

/-- An arrival that leaves lock ends the scan that is open, by the unlock or by a break before it (R153, R154). -/
theorem settled_aborts {v : BitVec 16} {s : State} {d : Descriptor} (locked : s.lock.state = .locked)
    (override : s.params.lockOverride = false) (untaken : s.due = .nothing) (isOpen : s.openScan = some d) :
    AbortedBy d (settled v false s) ∧ (settled v false s).flagPending .scanEnded = true := by
  rw [settled_eq]
  refine lockArrive_aborts (by simpa [generated_lock] using locked) (by simpa [generated_params] using override)
    (setChannels_openScan ((State.openScan_of_scan ?_).trans isOpen))
  rw [generated_frame v untaken]

/-! ## An aborted scan stays as it is -/

theorem AbortedBy.takeCaptureReport {d : Descriptor} {s : State} (h : AbortedBy d s) :
    AbortedBy d (takeCaptureReport s) := by
  refine takeCaptureReport_keeps (P := AbortedBy d) (fun _ _ _ h => h) (fun q t ht => ?_)
    (fun r t ht => ht.of_eq (by simp)) (fun r t ht => ht.of_eq (by simp)) h
  have tally : ∀ result, (t.scan.tally result).state = t.scan.state ∧ (t.scan.tally result).descriptor = t.scan.descriptor ∧
      (t.scan.tally result).endCause = t.scan.endCause := fun result => by cases result <;> exact ⟨rfl, rfl, rfl⟩
  have same : (matchLine q t).1.scan = t.scan ∨ ∃ result, (matchLine q t).1.scan = t.scan.tally result := by
    unfold matchLine lookupLine
    split
    · exact .inl rfl
    · split
      · exact .inr ⟨.stray, rfl⟩
      next e _ => exact .inr ⟨entryResult t.scanDirection t.matcher.lastMatched e, rfl⟩
  rcases same with same | ⟨result, same⟩
  · exact ht.of_eq same
  · obtain ⟨state, descriptor, cause⟩ := tally result
    unfold AbortedBy
    rw [same, state, descriptor, cause]
    exact ht

theorem AbortedBy.takeScanReport {d : Descriptor} {s : State} (h : AbortedBy d s) : AbortedBy d (takeScanReport s) := by
  refine h.of_eq ?_
  unfold Machine.takeScanReport testScan
  split
  · rfl
  · split
    · rfl
    · rw [h.1]

theorem AbortedBy.takeAll {d : Descriptor} {s : State} (h : AbortedBy d s) : AbortedBy d (takeAll s) := by
  have gate : AbortedBy d (takeGateEndRefr s) := h.of_eq (by simp)
  exact gate.takeCaptureReport.takeScanReport.of_eq (by simp [Machine.takeAll])

theorem arrived_grows (v : BitVec 16) (l : Bool) (s : State) : FlagsGrow (settled v l s) (arrived v l s) :=
  countArrival_grows _

/-- What every row of the port does with lock: the monitor's own step, LASER_UNLOCKED, and the end of an open scan. -/
theorem exec_arrival_lock {s : State} {i : Instr} {v : BitVec 16} {l : Bool} (row : sampleRow i = some (v, l))
    (high : s.resetLow = false) (full : s.samplePort.length = 7) :
    ∃ t, exec i s = .next t ∧ t.lock = s.lock.arrive (lockSettleLength s.params) l ∧
      (l = false → s.lock.state = .locked → t.flagPending .laserUnlocked = true) ∧
      (l = false → s.lock.state = .locked → s.params.lockOverride = false → s.due = .nothing →
        ∀ d, s.openScan = some d → AbortedBy d t ∧ t.flagPending .scanEnded = true) := by
  refine exec_arrival_keeps row high full ⟨arrived_lock v l s, ?_, ?_⟩ ?_
  · rintro rfl locked
    exact arrived_grows v false s _ (lockArrive_laserUnlocked (by rw [frontEnd_frame]; simpa using locked))
  · rintro rfl locked override untaken d isOpen
    obtain ⟨aborted, ended⟩ := settled_aborts (v := v) locked override untaken isOpen
    exact ⟨aborted.of_eq (by simp [arrived_settled]), arrived_grows v false s _ ended⟩
  · rintro ⟨lock, unlocked, aborts⟩
    refine ⟨by simpa using lock, fun hl locked => takeAll_grows _ _ (unlocked hl locked), ?_⟩
    intro hl locked override untaken d isOpen
    obtain ⟨aborted, ended⟩ := aborts hl locked override untaken d isOpen
    exact ⟨aborted.takeAll, takeAll_grows _ _ ended⟩

/-- What an arrival does to the refractivity: the value formed comes into use, and vacuum mode as configured (R34, R41,
R42). -/
theorem Refractivity.arrive_frame (r : Refractivity) :
    r.arrive =
      { r with
        nInUse := r.nFormed.getD r.nInUse, nFormed := none, vacuumInForce := r.config.vacuum, env := r.arrive.env
        age := r.arrive.age } := by
  unfold Refractivity.arrive
  split
  · rfl
  · split <;> rfl

theorem Refractivity.arrive_nInUse (r : Refractivity) : r.arrive.nInUse = r.nFormed.getD r.nInUse := by
  rw [Refractivity.arrive_frame]

theorem Refractivity.arrive_tracker (r : Refractivity) : r.arrive.tracker = r.tracker := by
  rw [Refractivity.arrive_frame]

theorem Refractivity.arrive_env (r : Refractivity) :
    r.arrive.env =
      if r.config.vacuum = r.vacuumInForce then r.env else if r.config.vacuum then .fresh else .stale := by
  unfold Refractivity.arrive
  split
  · rfl
  · split <;> rfl

/-- The part once the channels have moved and the lock monitor has taken the arrival, flags apart. -/
def unlocked (after : Four Channel) (high : Bool) (s : State) : State :=
  if high = false ∧ s.lock.state = .locked ∧ s.params.lockOverride = false then
    endScan .laserUnlock { setChannels after s with lock := s.lock.arrive (lockSettleLength s.params) high }
  else setChannels after s

/-- Breaks and unlock reach axes, scan, slots, captures and rings as `unlocked` has them. -/
theorem lockArrive_unlocked (after : Four Channel) (high : Bool) (s : State) :
    let t := lockArrive high (setChannels after s)
    let x := unlocked after high s
    t.axes = x.axes ∧ t.scan = x.scan ∧ t.slots = x.slots ∧ t.capture = x.capture ∧ t.main = x.main ∧ t.exc = x.exc := by
  obtain ⟨e, arrive⟩ := lockArrive_eq high (setChannels after s)
  simp only [arrive, unlocked, setChannels_lock, setChannels_params]
  split
  · exact ⟨rfl, rfl, rfl, rfl, rfl, rfl⟩
  · exact ⟨rfl, rfl, rfl, rfl, rfl, rfl⟩

/-- Settles O20: the lock monitor's own step, and the scan and the axes as breaks and unlock reach them in turn. -/
theorem lockMonitorFollowsArrivals : Obligations.LockMonitorFollowsArrivals := by
  intro s i v l row high full
  obtain ⟨t, run, lock, flagged, aborts⟩ := exec_arrival_lock row high full
  refine ⟨t, run, ?_, ?_, ?_, ?_, ?_, flagged, ?_, ?_⟩
  · rintro rfl state
    rw [lock, LockMonitor.arrive, if_pos rfl, state]
  · rintro rfl state short
    rw [lock, LockMonitor.arrive, if_pos rfl, state]
    exact (if_neg (Nat.not_le.mpr short)).trans (by rw [← state])
  · rintro rfl state full
    rw [lock, LockMonitor.arrive, if_pos rfl, state]
    exact if_pos full
  · rintro rfl state
    rw [lock, LockMonitor.arrive, if_pos rfl, state]
  · rintro rfl
    rw [lock]; rfl
  · intro hl locked override untaken d isOpen
    obtain ⟨⟨state, descriptor, cause⟩, ended⟩ := aborts hl locked override untaken d isOpen
    exact ⟨state, descriptor, ended, cause⟩
  · intro untaken other
    obtain rfl : arrived v l s = t := by
      have := (exec_arrival_left row other high full).symm.trans run
      injection this
    have frame := generated_frame v untaken
    have x : unlocked (arrived v l s).channels l (generated v s) =
        if l = false ∧ s.lock.state = .locked ∧ s.params.lockOverride = false then
          endScan .laserUnlock
            { setChannels (arrived v l s).channels (generated v s) with lock := (arrived v l s).lock }
        else setChannels (arrived v l s).channels (generated v s) := by
      rw [unlocked, generated_lock, generated_params, lock]
    have reach := lockArrive_unlocked (settled v l s).channels l (generated v s)
    rw [← settled_eq] at reach
    refine ⟨generated v s, unlocked (arrived v l s).channels l (generated v s), ?_, ?_, ?_, ?_, x, ?_⟩
    · rw [frame]
    · rw [frame]; exact s.refr.arrive_nInUse
    · rw [frame]; exact s.refr.arrive_tracker
    · rw [frame]; exact s.refr.arrive_env
    · simpa [arrived_settled] using reach

end Sys2Proof.Machine
end

section
/-! PROOFS. The Refractivity Unit: what an arrival brings into use, the age of the environment, and the steps of a gate end
(R34 to R42). -/

namespace Sys2Proof.Machine

/-! ## The age of the environment -/

theorem ageEnvironment_refr (s : State) : (ageEnvironment s).refr = s.refr.countAge (staleLimit s.params) := by
  rw [ageEnvironment_frame]

theorem ageEnvironment_flag (s : State) :
    (ageEnvironment s).flagPending .envStale =
      (s.flagPending .envStale || agesToStale (staleLimit s.params) s.refr) := by
  unfold ageEnvironment
  cases agesToStale (staleLimit s.params) s.refr
  · rw [Bool.or_false]; rfl
  · rw [Bool.or_true]; exact flagPending_raise_self _ _

/-- `t` is left with the environment of `r` after one arrival is counted in its age; `flag` tells whether ENV_STALE was
pending before. -/
structure AgedTo (limit : Nat) (r : Refractivity) (flag : Bool) (t : State) : Prop where
  env : t.refr.env = (r.countAge limit).env
  age : t.refr.age = (r.countAge limit).age
  flag : t.flagPending .envStale = (flag || agesToStale limit r)

/-- The count of an arrival looks at the environment, its age and whether vacuum mode is in force only. -/
theorem agedTo_ageEnvironment {s : State} {r : Refractivity} (env : s.refr.env = r.env) (age : s.refr.age = r.age)
    (vacuum : s.refr.vacuumInForce = r.vacuumInForce) :
    AgedTo (staleLimit s.params) r (s.flagPending .envStale) (ageEnvironment s) := by
  refine ⟨?_, ?_, ?_⟩
  · rw [ageEnvironment_refr, Refractivity.countAge, Refractivity.countAge, env, age, vacuum]
    split_ifs <;> simp [env]
  · rw [ageEnvironment_refr, Refractivity.countAge, Refractivity.countAge, env, age, vacuum]
    split_ifs <;> simp [age]
  · rw [ageEnvironment_flag, agesToStale, agesToStale, env, age, vacuum]

theorem AgedTo.takeBehindRefr {limit : Nat} {r : Refractivity} {flag : Bool} {t : State} (h : AgedTo limit r flag t) :
    AgedTo limit r flag (takeBehindRefr t) := by
  have refr := takeBehindRefr_refr t
  exact ⟨refr ▸ h.env, refr ▸ h.age, (takeBehindRefr_raises t).envStale.trans h.flag⟩

section aging

variable {limit : Nat} {r : Refractivity} {flag : Bool} {t : State}

theorem AgedTo.reached (h : AgedTo limit r flag t) (vacuum : r.vacuumInForce = false) (fresh : r.env = .fresh)
    (reached : limit ≤ r.age + 1) : t.refr.env = .stale ∧ t.refr.age = r.age + 1 ∧ t.flagPending .envStale = true := by
  have aged : r.countAge limit = { r with age := r.age + 1, env := .stale } := by
    rw [Refractivity.countAge, if_pos ⟨fresh, vacuum⟩, if_pos reached]
  refine ⟨by rw [h.env, aged], by rw [h.age, aged], ?_⟩
  rw [h.flag, agesToStale, fresh, vacuum, decide_eq_true reached]
  exact Bool.or_true flag

theorem AgedTo.counted (h : AgedTo limit r flag t) (vacuum : r.vacuumInForce = false) (fresh : r.env = .fresh)
    (below : r.age + 1 < limit) : t.refr.env = .fresh ∧ t.refr.age = r.age + 1 ∧ t.flagPending .envStale = flag := by
  have aged : r.countAge limit = { r with age := r.age + 1 } := by
    rw [Refractivity.countAge, if_pos ⟨fresh, vacuum⟩, if_neg (Nat.not_le.mpr below)]
  refine ⟨by rw [h.env, aged]; exact fresh, by rw [h.age, aged], ?_⟩
  rw [h.flag, agesToStale, decide_eq_false (Nat.not_le.mpr below), Bool.and_false, Bool.or_false]

theorem AgedTo.still (h : AgedTo limit r flag t) (still : r.env = .stale) :
    t.refr.env = .stale ∧ t.refr.age = r.age ∧ t.flagPending .envStale = flag := by
  have aged : r.countAge limit = r := by
    rw [Refractivity.countAge, still]; exact if_neg nofun
  refine ⟨by rw [h.env, aged]; exact still, by rw [h.age, aged], ?_⟩
  rw [h.flag, agesToStale, still]
  exact Bool.or_false flag

end aging

/-! ## The steps of a gate end -/

/-- Count of the channel that the stored parameters designate as tracker; 0 without one. -/
def designatedCount (s : State) : Int :=
  match s.params.trackerCh with
  | some c => (s.channels.get c).count
  | none => 0

/-- The designated tracker channel is TRACKING. -/
def designatedTracking (s : State) : Bool :=
  match s.params.trackerCh with
  | some c => (s.channels.get c).state == .tracking
  | none => false

/-- The unit once it has adopted the configuration and moved its tracker (R36, R37). -/
def movedRefr (s : State) : Refractivity :=
  (s.refr.adopt s.params.refrConfig).moveTracker (designatedTracking s) (designatedCount s)

theorem refrConfigured_eq (s : State) : refrConfigured s = (movedRefr s).promote s.scanIsOpen := by
  unfold refrConfigured movedRefr trackerTracking trackerCount designatedTracking designatedCount
  simp only [Refractivity.adopt_config]
  rfl

theorem movedRefr_frame (s : State) :
    movedRefr s =
      { s.refr with
        config := s.params.refrConfig, tracker := (movedRefr s).tracker, nBase := (movedRefr s).nBase
        tBase := (movedRefr s).tBase, pending := (movedRefr s).pending, held := (movedRefr s).held
        result := (movedRefr s).result } := by
  unfold movedRefr
  rw [Refractivity.moveTracker_frame, Refractivity.adopt_frame]

theorem formN_promote (scanOpen : Bool) (count : Int) (r : Refractivity) :
    formN count (r.promote scanOpen) = formN count r := by
  rw [Refractivity.promote_frame]; rfl

/-- Nothing waits, or nothing is taken in vacuum mode: step 4 leaves the unit alone (R39, R42). -/
theorem settles_nothing {r : Refractivity} (h : r.config.vacuum = true ∨ r.pending = none) (scanOpen : Bool)
    (stepMax count : Int) :
    r.settleUpdate scanOpen stepMax count = r ∧ appliesUpdate scanOpen stepMax count r = false := by
  rcases h with vacuum | none
  · refine ⟨if_pos vacuum, ?_⟩
    unfold appliesUpdate
    split
    · rfl
    · rw [vacuum]; rfl
  · constructor
    · unfold Refractivity.settleUpdate
      rw [none]
      exact ite_self r
    · unfold appliesUpdate
      rw [none]

/-- The part once the Refractivity Unit has taken a gate end with the value `formed`, before the age is counted. -/
def gateTaken (formed : Refractivity) (s : State) : State :=
  { s with refr := formed, due := { s.due with refractivity := false } }

theorem trackerCount_configured (s : State) : trackerCount { s with refr := refrConfigured s } = designatedCount s := by
  unfold trackerCount designatedCount
  rw [refrConfigured_frame]
  rfl

/-- The Refractivity Unit takes a gate end that is due (R35). -/
theorem takeGateEndRefr_of_due {s : State} (due : s.due.refractivity = true) :
    takeGateEndRefr s =
      if appliesUpdate s.scanIsOpen s.params.envStepMax (designatedCount s) (refrConfigured s) then gateTaken (formedRefr s) s
      else ageEnvironment (gateTaken (formedRefr s) s) := by
  rw [← trackerCount_configured, takeGateEndRefr, if_pos due]
  rfl

/-- With no update to settle, the value formed is that of the moved tracker, and the arrival is counted in the age (R34,
R41). -/
theorem takeGateEndRefr_unsettled {s : State} (due : s.due.refractivity = true)
    (h : s.params.vacuum = true ∨ (refrConfigured s).pending = none) :
    takeGateEndRefr s =
      ageEnvironment (gateTaken { refrConfigured s with nFormed := some (formN (designatedCount s) (movedRefr s)) } s) := by
  have nothing := settles_nothing (r := refrConfigured s) (h.imp_left fun hv => by rw [refrConfigured_frame]; exact hv)
    s.scanIsOpen s.params.envStepMax (designatedCount s)
  rw [takeGateEndRefr_of_due due, nothing.2, if_neg (by decide), formedRefr, trackerCount_configured, nothing.1]
  simp only [refrConfigured_eq, formN_promote]

theorem refrConfigured_pending_none {s : State} (pending : s.refr.pending = none) (held : s.refr.held = none) :
    (refrConfigured s).pending = none := by
  by_contra some
  obtain ⟨u, hu⟩ := Option.ne_none_iff_exists'.mp some
  rcases refrConfigured_waiting (.inl hu) with h | h
  · rw [pending] at h; cases h
  · rw [held] at h; cases h

theorem refrConfigured_held_none {s : State} (pending : s.refr.pending = none) (held : s.refr.held = none) :
    (refrConfigured s).held = none := by
  by_contra some
  obtain ⟨u, hu⟩ := Option.ne_none_iff_exists'.mp some
  rcases refrConfigured_waiting (.inr hu) with h | h
  · rw [pending] at h; cases h
  · rw [held] at h; cases h

theorem Refractivity.arrive_vacuum (r : Refractivity) : r.arrive.vacuumInForce = r.config.vacuum := by
  rw [Refractivity.arrive_frame]

theorem Refractivity.arrive_pending (r : Refractivity) : r.arrive.pending = r.pending := by
  rw [Refractivity.arrive_frame]

theorem Refractivity.arrive_held (r : Refractivity) : r.arrive.held = r.held := by
  rw [Refractivity.arrive_frame]

/-! ## Arrivals -/

theorem settled_refr (v : BitVec 16) (l : Bool) {s : State} (untaken : s.due.refractivity = false) :
    (settled v l s).refr = s.refr.arrive := by
  rw [settled, lockArrive_refr, frontEnd_frame, readied, refrArrive_frame,
    takeAll_refr (s := { s with samplePort := [] }) untaken]

/-- ENV_STALE once the channels and the lock monitor have taken the arrival: raised where vacuum mode leaves force (R41). -/
theorem settled_envStale (v : BitVec 16) (l : Bool) {s : State} (untaken : s.due.refractivity = false) :
    (settled v l s).flagPending .envStale =
      (s.flagPending .envStale || (s.refr.vacuumInForce && !s.refr.config.vacuum)) := by
  have behind : RaisesOther (readied s) (settled v l s) := (frontEnd_raises _ _).trans (lockArrive_raises l _)
  have taken : (takeAll { s with samplePort := [] }).flagPending .envStale = s.flagPending .envStale := by
    rw [takeAll_eq, takeGateEndRefr_of_taken (s := { s with samplePort := [] }) untaken]
    exact (takeBehindRefr_raises _).envStale
  rw [behind.envStale, readied, refrArrive, takeAll_refr (s := { s with samplePort := [] }) untaken, ← taken]
  cases s.refr.vacuumInForce && !s.refr.config.vacuum
  · rw [Bool.or_false]; rfl
  · rw [Bool.or_true]; exact flagPending_raise_self _ _

theorem settled_params (v : BitVec 16) (l : Bool) (s : State) : (settled v l s).params = s.params := by simp [settled]

theorem settled_motion (v : BitVec 16) (l : Bool) (s : State) : (settled v l s).motion = s.motion := by
  simp [settled]

theorem arrived_of_gate {v : BitVec 16} {l : Bool} {s : State} (gate : s.motion.gateCounter + 1 = s.motion.gateLength) :
    arrived v l s = closeGate (settled v l s) := by
  rw [arrived_settled, countArrival, if_pos (by rw [settled_motion]; exact gate)]

theorem arrived_of_counted {v : BitVec 16} {l : Bool} {s : State}
    (within : s.motion.gateCounter + 1 ≠ s.motion.gateLength) :
    arrived v l s = ageEnvironment { settled v l s with
      motion := { s.motion with gateCounter := s.motion.gateCounter + 1 } } := by
  rw [arrived_settled, countArrival, if_neg (by rw [settled_motion]; exact within), settled_motion]

/-- The count of the arrival leaves the refractivity in use and the vacuum mode in force alone. -/
theorem arrived_inUse (v : BitVec 16) (l : Bool) (s : State) :
    (arrived v l s).refr.nInUse = (settled v l s).refr.nInUse ∧
      (arrived v l s).refr.vacuumInForce = (settled v l s).refr.vacuumInForce := by
  by_cases gate : s.motion.gateCounter + 1 = s.motion.gateLength
  · rw [arrived_of_gate gate]
    exact ⟨rfl, rfl⟩
  · rw [arrived_of_counted gate, ageEnvironment_refr, Refractivity.countAge_frame]
    exact ⟨rfl, rfl⟩

/-- So does the Refractivity Unit's taking of a gate end. -/
theorem takeGateEndRefr_inUse (s : State) :
    (takeGateEndRefr s).refr.nInUse = s.refr.nInUse ∧
      (takeGateEndRefr s).refr.vacuumInForce = s.refr.vacuumInForce := by
  have formed : (formedRefr s).nInUse = s.refr.nInUse ∧ (formedRefr s).vacuumInForce = s.refr.vacuumInForce := by
    obtain ⟨-, inUse, -, vacuum, -⟩ := (refrConfigured s).settleUpdate_frame s.scanIsOpen s.params.envStepMax
      (trackerCount { s with refr := refrConfigured s })
    exact ⟨inUse.trans (by rw [refrConfigured_frame]), vacuum.trans (by rw [refrConfigured_frame])⟩
  rcases takeGateEndRefr_refr s with ⟨same, -⟩ | ⟨-, same | same⟩
  · rw [same]; exact ⟨rfl, rfl⟩
  · rw [same]; exact formed
  · rw [same, Refractivity.countAge_frame]; exact formed

theorem takeAll_inUse (s : State) :
    (takeAll s).refr.nInUse = s.refr.nInUse ∧ (takeAll s).refr.vacuumInForce = s.refr.vacuumInForce := by
  rw [takeAll_eq, takeBehindRefr_refr]
  exact takeGateEndRefr_inUse s

/-- Every row brings the value formed into use, with vacuum mode as it was configured (R34, R42). -/
theorem exec_arrival_refr {s : State} {i : Instr} {v : BitVec 16} {l : Bool} (row : sampleRow i = some (v, l))
    (high : s.resetLow = false) (full : s.samplePort.length = 7) (untaken : s.due.refractivity = false) :
    ∃ t, exec i s = .next t ∧ t.refr.nInUse = s.refr.nFormed.getD s.refr.nInUse ∧
      t.refr.vacuumInForce = s.refr.config.vacuum := by
  refine exec_arrival_keeps row high full ?_ fun ⟨inUse, vacuum⟩ => ?_
  · obtain ⟨inUse, vacuum⟩ := arrived_inUse v l s
    rw [inUse, vacuum, settled_refr v l untaken]
    exact ⟨s.refr.arrive_nInUse, s.refr.arrive_vacuum⟩
  · obtain ⟨inUse', vacuum'⟩ := takeAll_inUse (arrived v l s)
    exact ⟨inUse'.trans inUse, vacuum'.trans vacuum⟩

theorem exec_gateEnd {s : State} {v : BitVec 16} {l : Bool} (high : s.resetLow = false)
    (full : s.samplePort.length = 7) : exec (.gateEnd v l) s = .next (takeAll (arrived v l s)) := by
  show live s (deliverWhole v l) = _
  rw [live_of_high high, deliverWhole, if_pos (by show 8 ≤ s.samplePort.length + 1; omega), deliver_arrived full]

theorem closeGate_refr (s : State) : (closeGate s).refr = s.refr := rfl

theorem closeGate_due_refractivity (s : State) : (closeGate s).due.refractivity = true := rfl

theorem agedTo_counted (s : State) (motion : Motion) :
    AgedTo (staleLimit s.params) s.refr (s.flagPending .envStale) (ageEnvironment { s with motion := motion }) :=
  agedTo_ageEnvironment (s := { s with motion := motion }) rfl rfl rfl

/-- A gate end at which no update waits, once the Refractivity Unit has taken it, has been counted in the age. -/
theorem closeGate_aged {s : State} (pending : s.refr.pending = none) (held : s.refr.held = none) :
    AgedTo (staleLimit s.params) s.refr (s.flagPending .envStale) (takeGateEndRefr (closeGate s)) := by
  have none := refrConfigured_pending_none (s := closeGate s) pending held
  have frame := refrConfigured_frame (closeGate s)
  rw [takeGateEndRefr_unsettled (s := closeGate s) rfl (.inr none)]
  exact agedTo_ageEnvironment (s := gateTaken _ (closeGate s)) (congrArg (·.env) frame) (congrArg (·.age) frame)
    (congrArg (·.vacuumInForce) frame)

/-- An arrival of which no gate end is left applies no update: it is counted in the age, by the arrival itself or by the
Refractivity Unit's taking of the gate end that it brings (R41). -/
theorem exec_arrival_aged {s : State} {i : Instr} {v : BitVec 16} {l : Bool} (high : s.resetLow = false)
    (full : s.samplePort.length = 7) (untaken : s.due.refractivity = false)
    (h : (sampleRow i = some (v, l) ∧ s.motion.gateCounter + 1 ≠ s.motion.gateLength) ∨
      (i = .gateEnd v l ∧ s.motion.gateCounter + 1 = s.motion.gateLength ∧ s.refr.pending = none ∧ s.refr.held = none)) :
    ∃ t, exec i s = .next t ∧
      AgedTo (staleLimit s.params) s.refr.arrive
        (s.flagPending .envStale || (s.refr.vacuumInForce && !s.refr.config.vacuum)) t := by
  have refr := settled_refr v l untaken
  rw [← settled_envStale v l untaken, ← settled_params v l s, ← refr]
  rcases h with ⟨row, within⟩ | ⟨rfl, gate, pending, held⟩
  · refine ⟨_, exec_arrival_left row (.inr within) high full, ?_⟩
    rw [arrived_of_counted within]
    exact agedTo_counted _ _
  · refine ⟨_, exec_gateEnd high full, ?_⟩
    rw [arrived_of_gate gate, takeAll_eq]
    refine AgedTo.takeBehindRefr (closeGate_aged ?_ ?_)
    · rw [refr, Refractivity.arrive_pending, pending]
    · rw [refr, Refractivity.arrive_held, held]

/-- Settles O21: the value formed comes into use, and the arrival is counted in the age. -/
theorem arrivalsBringNIntoUseAndAgeIt : Obligations.ArrivalsBringNIntoUseAndAgeIt := by
  refine ⟨fun s i v l row high full untaken => exec_arrival_refr row high full untaken,
    fun s i v l high full untaken config h => ?_, fun s i v l row other high full untaken config gate vacuum => ?_⟩
  · obtain ⟨t, run, aged⟩ := exec_arrival_aged high full untaken h
    have flag : (s.flagPending .envStale || (s.refr.vacuumInForce && !s.refr.config.vacuum)) =
        (s.flagPending .envStale || s.refr.vacuumInForce) := by rw [config]; simp
    rw [flag] at aged
    have kept : s.refr.vacuumInForce = false →
        s.refr.arrive.vacuumInForce = false ∧ s.refr.arrive.env = s.refr.env ∧ s.refr.arrive.age = s.refr.age := by
      intro vacuum
      rw [Refractivity.arrive, config, vacuum]
      exact ⟨rfl, rfl, rfl⟩
    refine ⟨t, run, fun vacuum fresh limit => ?_, fun vacuum fresh below => ?_, fun vacuum stale => ?_, fun vacuum => ?_⟩
    · obtain ⟨force, env, age⟩ := kept vacuum
      rw [← env] at fresh
      rw [← age] at limit ⊢
      exact aged.reached force fresh limit
    · obtain ⟨force, env, age⟩ := kept vacuum
      rw [← env] at fresh
      rw [← age] at below ⊢
      obtain ⟨env, age, -⟩ := aged.counted force fresh below
      exact ⟨env, age⟩
    · obtain ⟨force, env, age⟩ := kept vacuum
      rw [← env] at stale
      rw [← age]
      obtain ⟨env, age, flag⟩ := aged.still stale
      exact ⟨env, age, by rw [flag, vacuum, Bool.or_false]⟩
    · have left : s.refr.arrive.env = .stale := by
        rw [Refractivity.arrive_env, config, vacuum]; rfl
      obtain ⟨env, -, flag⟩ := aged.still left
      exact ⟨env, by rw [flag, vacuum, Bool.or_true]⟩
  · refine ⟨_, exec_arrival_left row (.inl other) high full, ?_⟩
    have refr := (closeGate_refr (settled v l s)).trans (settled_refr v l untaken)
    rw [arrived_of_gate gate, refr, Refractivity.arrive, config, vacuum]
    exact ⟨rfl, rfl, closeGate_due_refractivity _⟩

end Sys2Proof.Machine
end

section
/-! PROOFS. The value of N that a gate end forms: the configuration adopted, the tracker, and the updates that wait (R34 to
R42). -/

namespace Sys2Proof.Machine

/-! ## Adoption and tracker, case by case -/

namespace Refractivity

variable {r : Refractivity} {c : RefrConfig} {tracking : Bool} {count : Int}

/-- Vacuum mode is left, or stays: the tracker rests, and the base is as it was kept (R36, R42). -/
theorem adopt_from_vacuum (vacuum : r.config.vacuum = true) :
    r.adopt c = { r with config := c, tracker := restingTracker c } := if_pos vacuum

/-- Vacuum mode is entered: the updates that wait are discarded (R42). -/
theorem adopt_into_vacuum (before : r.config.vacuum = false) (vacuum : c.vacuum = true) :
    r.adopt c =
      { r with
        config := c, tracker := restingTracker c, nBase := if r.tracker = .following then r.nInUse else r.nBase
        pending := none, held := none
        result := if r.pending.isSome || r.held.isSome then .ignored else r.result } := by
  rw [adopt, before, vacuum]; rfl

theorem adopt_same (same : r.config = c) (vacuum : c.vacuum = false) : r.adopt c = r := by
  subst same
  simp [adopt, vacuum]

/-- A change while FOLLOWING makes the N in use the base (R36). -/
theorem adopt_following (following : r.tracker = .following) (changed : c ≠ r.config) (before : r.config.vacuum = false)
    (vacuum : c.vacuum = false) :
    r.adopt c = { r with config := c, nBase := r.nInUse, tracker := restingTracker c } := by
  rw [adopt, before, vacuum, if_pos following, if_pos following, if_neg changed]; rfl

/-- A change while ABSENT or FROZEN keeps the base, and the tracker with its channel (R36). -/
theorem adopt_unfollowed (unfollowed : r.tracker ≠ .following) (before : r.config.vacuum = false)
    (vacuum : c.vacuum = false) :
    r.adopt c =
      { r with
        config := c, tracker := if c.tracker = r.config.tracker then r.tracker else restingTracker c } := by
  rw [adopt, before, vacuum, if_neg unfollowed]
  split_ifs <;> simp_all

theorem moveTracker_inVacuum (vacuum : r.config.vacuum = true) : r.moveTracker tracking count = r := if_pos vacuum

theorem moveTracker_absent (absent : r.tracker = .absent) : r.moveTracker tracking count = r := by
  rw [moveTracker, absent]
  exact ite_self r

theorem moveTracker_following (vacuum : r.config.vacuum = false) (following : r.tracker = .following) :
    r.moveTracker tracking count = if tracking then r else { r with tracker := .frozen, nBase := r.nInUse } := by
  rw [moveTracker, vacuum, following]; rfl

theorem moveTracker_frozen (vacuum : r.config.vacuum = false) (frozen : r.tracker = .frozen) :
    r.moveTracker tracking count = if tracking then { r with tracker := .following, tBase := count } else r := by
  rw [moveTracker, vacuum, frozen]; rfl

/-- A tracker that is not followed keeps its base; where it re-follows it does so from the count of now (R37). -/
theorem moveTracker_unfollowed (vacuum : r.config.vacuum = false) (unfollowed : r.tracker ≠ .following) :
    (r.moveTracker tracking count).nBase = r.nBase ∧
      ((r.moveTracker tracking count).tracker = .following → (r.moveTracker tracking count).tBase = count) := by
  cases state : r.tracker with
  | following => exact absurd state unfollowed
  | absent =>
    rw [moveTracker_absent state]
    exact ⟨rfl, fun h => absurd h unfollowed⟩
  | frozen =>
    rw [moveTracker_frozen vacuum state]
    split
    · exact ⟨rfl, fun _ => rfl⟩
    · exact ⟨rfl, fun h => absurd h unfollowed⟩

end Refractivity

theorem restingTracker_ne_following (c : RefrConfig) : restingTracker c ≠ .following := by
  unfold restingTracker
  split <;> nofun

theorem restingTracker_eq (c : RefrConfig) : restingTracker c = if c.tracker = none then .absent else .frozen := by
  unfold restingTracker
  cases c.tracker <;> rfl

/-- A FROZEN tracker follows its designated channel where that is TRACKING, and stays as it is otherwise (R37). -/
theorem moveTracker_designated {s : State} {r : Refractivity} {c : Fin 4} (vacuum : r.config.vacuum = false)
    (designated : s.params.trackerCh = some c) (frozen : r.tracker = .frozen) :
    ((s.channels.get c).state = .tracking →
      (r.moveTracker (designatedTracking s) (designatedCount s)).tracker = .following ∧
      (r.moveTracker (designatedTracking s) (designatedCount s)).tBase = (s.channels.get c).count) ∧
    ((s.channels.get c).state ≠ .tracking →
      (r.moveTracker (designatedTracking s) (designatedCount s)).tracker = .frozen ∧
      (r.moveTracker (designatedTracking s) (designatedCount s)).tBase = r.tBase) := by
  rw [Refractivity.moveTracker_frozen vacuum frozen, designatedTracking, designatedCount, designated]
  constructor
  · intro state
    exact if_pos (c := ((s.channels.get c).state == .tracking) = true) (beq_iff_eq.mpr state) ▸ ⟨rfl, rfl⟩
  · intro state
    exact if_neg (c := ((s.channels.get c).state == .tracking) = true) (state ∘ beq_iff_eq.mp) ▸ ⟨frozen, rfl⟩

/-- So a tracker that rests after its designation: ABSENT without a channel, and followed at once where that tracks. -/
theorem moveTracker_rested {s : State} {r : Refractivity} (vacuum : r.config.vacuum = false)
    (rests : r.tracker = restingTracker s.params.refrConfig) :
    (s.params.trackerCh = none →
      (r.moveTracker (designatedTracking s) (designatedCount s)).tracker = .absent) ∧
    ∀ c, s.params.trackerCh = some c →
      ((s.channels.get c).state = .tracking →
        (r.moveTracker (designatedTracking s) (designatedCount s)).tracker = .following ∧
        (r.moveTracker (designatedTracking s) (designatedCount s)).tBase = (s.channels.get c).count) ∧
      ((s.channels.get c).state ≠ .tracking →
        (r.moveTracker (designatedTracking s) (designatedCount s)).tracker = .frozen ∧
        (r.moveTracker (designatedTracking s) (designatedCount s)).tBase = r.tBase) := by
  rw [restingTracker_eq] at rests
  constructor
  · intro undesignated
    rw [show s.params.refrConfig.tracker = none from undesignated, if_pos rfl] at rests
    rw [Refractivity.moveTracker_absent rests]
    exact rests
  · intro c designated
    rw [show s.params.refrConfig.tracker = some c from designated] at rests
    exact moveTracker_designated vacuum designated rests

/-! ## The value formed -/

theorem roundDiv_zero {d : Int} (hd : 0 < d) : roundDiv 0 d = 0 := by
  rw [roundDiv_of_nonneg (Int.le_refl 0)]
  exact Int.ediv_eq_zero_of_lt (by omega) (by omega)

theorem formN_inVacuum {count : Int} {r : Refractivity} (vacuum : r.config.vacuum = true) : formN count r = 0 := if_pos vacuum

theorem formN_following {count : Int} {r : Refractivity} (vacuum : r.config.vacuum = false)
    (following : r.tracker = .following) :
    formN count r =
      clampN (r.nBase + trackerTerm (count - r.tBase) r.config.lambda (r.config.pathK.getD 1) r.config.length) := by
  rw [formN, vacuum, following]; rfl

theorem formN_unfollowed {count : Int} {r : Refractivity} (vacuum : r.config.vacuum = false)
    (unfollowed : r.tracker ≠ .following) : formN count r = clampN r.nBase := by
  rw [formN, vacuum]
  cases state : r.tracker
  case following => exact absurd state unfollowed
  all_goals rfl

theorem designatedCount_eq {s : State} {c : Fin 4} (designated : s.params.trackerCh = some c) :
    designatedCount s = (s.channels.get c).count := by
  rw [designatedCount, designated]

theorem designatedTracking_iff {s : State} {c : Fin 4} (designated : s.params.trackerCh = some c) :
    designatedTracking s = true ↔ (s.channels.get c).state = .tracking := by
  rw [designatedTracking, designated]
  exact beq_iff_eq

/-- A configuration whose tracker term can be formed: the length and the factor of the tracker are positive. -/
def RefrConfig.Formable (c : RefrConfig) : Prop := 0 < c.length ∧ 0 < c.pathK.getD 1

theorem formable_refrConfig {p : Params} (length : 0 < p.trackerLen) (factors : ∀ c, 0 < (p.channel.get c).pathK) :
    p.refrConfig.Formable := by
  refine ⟨length, ?_⟩
  unfold Params.refrConfig
  cases p.trackerCh with
  | none => exact Int.one_pos
  | some c => exact factors c

theorem designated_pathK {p : Params} {c : Fin 4} (designated : p.trackerCh = some c) :
    p.refrConfig.pathK.getD 1 = (p.channel.get c).pathK := by
  rw [Params.refrConfig, designated]
  rfl

/-- Where the tracker has not moved from its base, the value formed is the base (R34). -/
theorem formN_base {count : Int} {r : Refractivity} (vacuum : r.config.vacuum = false) (formable : r.config.Formable)
    (unmoved : r.tracker = .following → r.tBase = count) : formN count r = clampN r.nBase := by
  obtain ⟨length, factor⟩ := formable
  by_cases following : r.tracker = .following
  · have positive : 0 < 1024 * r.config.pathK.getD 1 * r.config.length :=
      Int.mul_pos (Int.mul_pos (by decide) factor) length
    rw [formN_following vacuum following, unmoved following, trackerTerm, Int.sub_self, Int.zero_mul, Int.zero_mul,
      roundDiv_zero positive, Int.add_zero]
  · exact formN_unfollowed vacuum following

theorem clampN_eq_self {v : Int} (h : IsRefractivity v) : clampN v = v := clampTo_eq_self h

/-! ## A gate end at which no update is applied -/

theorem takeGateEndRefr_forms {s : State} (due : s.due.refractivity = true)
    (h : s.params.vacuum = true ∨ (refrConfigured s).pending = none) :
    (takeGateEndRefr s).refr =
      { (movedRefr s).promote s.scanIsOpen with
        nFormed := some (formN (designatedCount s) (movedRefr s))
        env := (takeGateEndRefr s).refr.env, age := (takeGateEndRefr s).refr.age } := by
  rw [takeGateEndRefr_unsettled due h, ageEnvironment_refr, Refractivity.countAge_frame, ← refrConfigured_eq]
  rfl

theorem Refractivity.promote_none {r : Refractivity} (held : r.held = none) (scanOpen : Bool) :
    r.promote scanOpen = r := by
  rw [promote, held]
  exact ite_self r

theorem movedRefr_waiting {s : State} (pending : s.refr.pending = none) (held : s.refr.held = none) :
    (movedRefr s).pending = none ∧ (movedRefr s).held = none := by
  have adopted : (s.refr.adopt s.params.refrConfig).pending = none ∧ (s.refr.adopt s.params.refrConfig).held = none := by
    rcases s.refr.adopt_pending (c := s.params.refrConfig) with ⟨hp, hh⟩ | none
    · exact ⟨hp.trans pending, hh.trans held⟩
    · exact none
  unfold movedRefr
  rw [Refractivity.moveTracker_frame]
  exact adopted

/-- With no update waiting, the unit is that of the moved tracker, the value formed and the age apart. -/
theorem takeGateEndRefr_moved {s : State} (due : s.due.refractivity = true) (pending : s.refr.pending = none)
    (held : s.refr.held = none) :
    (takeGateEndRefr s).refr =
      { movedRefr s with
        nFormed := some (formN (designatedCount s) (movedRefr s))
        env := (takeGateEndRefr s).refr.env, age := (takeGateEndRefr s).refr.age } := by
  have forms := takeGateEndRefr_forms due (.inr (refrConfigured_pending_none pending held))
  rwa [Refractivity.promote_none (movedRefr_waiting pending held).2] at forms

/-- The configuration adopted by a gate end that is due (R36). -/
theorem takeGateEndRefr_config {s : State} (due : s.due.refractivity = true) :
    (takeGateEndRefr s).refr.config = s.params.refrConfig := by
  have formed : (formedRefr s).config = s.params.refrConfig := by
    obtain ⟨config, -⟩ := (refrConfigured s).settleUpdate_frame s.scanIsOpen s.params.envStepMax
      (trackerCount { s with refr := refrConfigured s })
    exact config.trans (by rw [refrConfigured_frame])
  rcases takeGateEndRefr_refr s with ⟨-, taken⟩ | ⟨-, same | same⟩
  · rw [taken] at due; cases due
  · rw [same]; exact formed
  · rw [same, Refractivity.countAge_frame]; exact formed

theorem adopted_vacuum {s : State} (vacuum : s.params.vacuum = false) :
    (s.refr.adopt s.params.refrConfig).config.vacuum = false := by
  rw [Refractivity.adopt_config]
  exact vacuum

/-- A tracker that is not followed at the adoption forms the base as adopted (R34, R36). -/
theorem movedRefr_base {s : State} (vacuum : s.params.vacuum = false) (formable : s.params.refrConfig.Formable)
    (unfollowed : (s.refr.adopt s.params.refrConfig).tracker ≠ .following) :
    (movedRefr s).nBase = (s.refr.adopt s.params.refrConfig).nBase ∧
      formN (designatedCount s) (movedRefr s) = clampN (s.refr.adopt s.params.refrConfig).nBase := by
  obtain ⟨base, unmoved⟩ := Refractivity.moveTracker_unfollowed (tracking := designatedTracking s)
    (count := designatedCount s) (adopted_vacuum vacuum) unfollowed
  have moved : (movedRefr s).config = s.params.refrConfig := by rw [movedRefr_frame]
  refine ⟨base, ?_⟩
  rw [formN_base (r := movedRefr s) (by rw [moved]; exact vacuum) (by rw [moved]; exact formable) unmoved]
  exact congrArg clampN base

/-- In vacuum mode the value formed is 0 and the tracker rests (R36, R42). -/
theorem movedRefr_inVacuum {s : State} (vacuum : s.params.vacuum = true) :
    movedRefr s = s.refr.adopt s.params.refrConfig ∧ formN (designatedCount s) (movedRefr s) = 0 := by
  have moved : (movedRefr s).config.vacuum = true := by rw [movedRefr_frame]; exact vacuum
  exact ⟨Refractivity.moveTracker_inVacuum (by rw [Refractivity.adopt_config]; exact vacuum), formN_inVacuum moved⟩

/-- While vacuum mode is in force no arrival is counted in the age (R41). -/
theorem takeGateEndRefr_unaged {s : State} (due : s.due.refractivity = true) (pending : s.refr.pending = none)
    (held : s.refr.held = none) (force : s.refr.vacuumInForce = true) :
    (takeGateEndRefr s).refr.env = s.refr.env ∧ (takeGateEndRefr s).refr.age = s.refr.age := by
  have frame := refrConfigured_frame s
  have still : (refrConfigured s).vacuumInForce = true := (congrArg (·.vacuumInForce) frame).trans force
  rw [takeGateEndRefr_unsettled due (.inr (refrConfigured_pending_none pending held)), ageEnvironment_refr,
    Refractivity.countAge, if_neg (by rintro ⟨-, h⟩; exact Bool.false_ne_true (h.symm.trans still))]
  exact ⟨congrArg (·.env) frame, congrArg (·.age) frame⟩

/-- Settles O22: the moved tracker by the case of the adoption, with the value formed from it. -/
theorem gateEndAdoptsTheConfiguration : Obligations.GateEndAdoptsTheConfiguration := by
  intro s high due
  obtain ⟨inUse, force⟩ := takeGateEndRefr_inUse s
  refine ⟨takeGateEndRefr s, live_of_high high _, takeGateEndRefr_frame s, inUse, force, takeGateEndRefr_config due,
    ?_, ?_, ?_, ?_⟩
  · intro following changed before vacuum pending held range length factors
    rw [takeGateEndRefr_config due] at changed
    have adopted := Refractivity.adopt_following following changed before vacuum
    have rests : (s.refr.adopt s.params.refrConfig).tracker = restingTracker s.params.refrConfig := by rw [adopted]
    obtain ⟨base, formed⟩ := movedRefr_base vacuum (formable_refrConfig length factors)
      (rests ▸ restingTracker_ne_following _)
    obtain ⟨absent, designated⟩ := moveTracker_rested (s := s) (adopted_vacuum vacuum) rests
    rw [adopted] at base formed
    rw [takeGateEndRefr_moved due pending held]
    refine ⟨base, congrArg some (formed.trans (clampN_eq_self range)), absent, fun c hc => ?_⟩
    exact ⟨(designated c hc).1, fun lost => ((designated c hc).2 lost).1⟩
  · intro before vacuum
    obtain ⟨moved, formed⟩ := movedRefr_inVacuum vacuum
    rw [Refractivity.adopt_into_vacuum before vacuum] at moved
    rw [takeGateEndRefr_forms due (.inl vacuum), formed, moved, Refractivity.promote_none rfl]
    refine ⟨rfl, rfl, rfl, restingTracker_eq _, rfl, ?_⟩
    simp only [Bool.or_eq_true]
  · intro before vacuum
    obtain ⟨moved, formed⟩ := movedRefr_inVacuum vacuum
    rw [Refractivity.adopt_from_vacuum before] at moved
    rw [takeGateEndRefr_forms due (.inl vacuum), formed, moved, Refractivity.promote_frame]
    exact ⟨rfl, rfl, rfl, restingTracker_eq _⟩
  · intro vacuum pending held length factors
    have formable := formable_refrConfig length factors
    have refr := takeGateEndRefr_moved due pending held
    refine ⟨fun unfollowed => ?_, fun redesignated => ?_, fun before kept => ⟨fun absent => ?_, fun frozen c hc => ?_⟩,
      takeGateEndRefr_unaged due pending held⟩
    · have adopted : (s.refr.adopt s.params.refrConfig).tracker ≠ .following ∧
          (s.refr.adopt s.params.refrConfig).nBase = s.refr.nBase := by
        cases before : s.refr.config.vacuum with
        | true =>
          rw [Refractivity.adopt_from_vacuum before]
          exact ⟨restingTracker_ne_following _, rfl⟩
        | false =>
          have unfollowed := unfollowed.resolve_left (by rw [before]; decide)
          rw [Refractivity.adopt_unfollowed unfollowed before vacuum]
          refine ⟨?_, rfl⟩
          show (if _ then _ else _) ≠ _
          split
          · exact unfollowed
          · exact restingTracker_ne_following _
      obtain ⟨base, formed⟩ := movedRefr_base vacuum formable adopted.1
      rw [adopted.2] at base formed
      rw [refr]
      exact ⟨base, congrArg some formed⟩
    · have adopted : (s.refr.adopt s.params.refrConfig).tracker = restingTracker s.params.refrConfig ∧
          (s.refr.adopt s.params.refrConfig).tBase = s.refr.tBase := by
        rcases redesignated with before | ⟨unfollowed, other⟩
        · rw [Refractivity.adopt_from_vacuum before]
          exact ⟨rfl, rfl⟩
        · cases before : s.refr.config.vacuum with
          | true =>
            rw [Refractivity.adopt_from_vacuum before]
            exact ⟨rfl, rfl⟩
          | false =>
            rw [Refractivity.adopt_unfollowed unfollowed before vacuum]
            exact ⟨if_neg (Ne.symm other), rfl⟩
      obtain ⟨absent, designated⟩ := moveTracker_rested (s := s) (adopted_vacuum vacuum) adopted.1
      rw [adopted.2] at designated
      rw [refr]
      exact ⟨absent, designated⟩
    · have adopted := Refractivity.adopt_unfollowed (r := s.refr) (c := s.params.refrConfig) (by rw [absent]; decide) before
        vacuum
      have stays : (s.refr.adopt s.params.refrConfig).tracker = .absent := by
        rw [adopted]
        exact (if_pos kept.symm).trans absent
      rw [refr]
      show (Refractivity.moveTracker _ _ _).tracker = _
      rw [Refractivity.moveTracker_absent stays]
      exact stays
    · have adopted := Refractivity.adopt_unfollowed (r := s.refr) (c := s.params.refrConfig) (by rw [frozen]; decide) before
        vacuum
      have stays : (s.refr.adopt s.params.refrConfig).tracker = .frozen ∧
          (s.refr.adopt s.params.refrConfig).tBase = s.refr.tBase := by
        rw [adopted]
        exact ⟨(if_pos kept.symm).trans frozen, rfl⟩
      have designated := moveTracker_designated (s := s) (adopted_vacuum vacuum) hc stays.1
      rw [stays.2] at designated
      rw [refr]
      exact designated

/-! ## The configuration unchanged -/

theorem movedRefr_of_same {s : State} (same : s.refr.config = s.params.refrConfig) (vacuum : s.params.vacuum = false) :
    movedRefr s = s.refr.moveTracker (designatedTracking s) (designatedCount s) := by
  rw [movedRefr, Refractivity.adopt_same same vacuum]

/-- With no update waiting the arrival that ended the gate is counted in the age by the taking of the gate end (R41). -/
theorem takeGateEndRefr_aged {s : State} (due : s.due.refractivity = true) (pending : s.refr.pending = none)
    (held : s.refr.held = none) :
    AgedTo (staleLimit s.params) s.refr (s.flagPending .envStale) (takeGateEndRefr s) := by
  have frame := refrConfigured_frame s
  rw [takeGateEndRefr_unsettled due (.inr (refrConfigured_pending_none pending held))]
  exact agedTo_ageEnvironment (s := gateTaken _ s) (congrArg (·.env) frame) (congrArg (·.age) frame)
    (congrArg (·.vacuumInForce) frame)

theorem ageEnvironment_quiet {s : State} (quiet : agesToStale (staleLimit s.params) s.refr = false) :
    (ageEnvironment s).events = s.events := by
  rw [ageEnvironment, quiet, raiseIf_false]

/-- Where the arrival does not make the environment STALE the flags stay. -/
theorem takeGateEndRefr_quiet {s : State} (due : s.due.refractivity = true) (pending : s.refr.pending = none)
    (held : s.refr.held = none) (quiet : agesToStale (staleLimit s.params) s.refr = false) :
    (takeGateEndRefr s).events = s.events := by
  rw [takeGateEndRefr_unsettled due (.inr (refrConfigured_pending_none pending held)), refrConfigured_frame]
  exact ageEnvironment_quiet (s := gateTaken _ s) quiet

/-- Settles O23: the moved tracker forms N from the base, and the arrival is counted in the age. -/
theorem gateEndFormsN : Obligations.GateEndFormsN := by
  intro s high due same vacuum pending held
  have aged := takeGateEndRefr_aged due pending held
  have before : s.refr.config.vacuum = false := same ▸ vacuum
  have moved := movedRefr_of_same same vacuum
  have waiting := movedRefr_waiting pending held
  refine ⟨takeGateEndRefr s, live_of_high high _, ?_, ?_, fun c hc following tracking length factor => ?_,
    fun c hc following lost => ?_, fun c hc frozen tracking length factor => ?_, fun c hc frozen lost => ?_,
    fun absent => ?_, aged.reached, fun force fresh below => ?_, fun stale => ?_⟩
  · rw [takeGateEndRefr_moved due pending held]; exact waiting.1
  · rw [takeGateEndRefr_moved due pending held]; exact waiting.2
  · rw [Refractivity.moveTracker_following before following, if_pos ((designatedTracking_iff hc).mpr tracking)] at moved
    have factor' : s.refr.config.pathK.getD 1 = (s.params.channel.get c).pathK := same ▸ designated_pathK hc
    have lambda : s.refr.config.lambda = s.params.lambda := congrArg RefrConfig.lambda same
    have length' : s.refr.config.length = s.params.trackerLen := congrArg RefrConfig.length same
    rw [takeGateEndRefr_moved due pending held, moved, formN_following before following, designatedCount_eq hc, factor',
      lambda, length']
    exact ⟨following, rfl, rfl, _, roundDiv_isRounded (Int.mul_pos (Int.mul_pos (by decide) factor) length) _, rfl⟩
  · rw [Refractivity.moveTracker_following before following, if_neg (lost ∘ (designatedTracking_iff hc).mp)] at moved
    rw [takeGateEndRefr_moved due pending held, moved]
    exact ⟨rfl, rfl, congrArg some (formN_unfollowed before nofun)⟩
  · rw [Refractivity.moveTracker_frozen before frozen, if_pos ((designatedTracking_iff hc).mpr tracking)] at moved
    have formable : s.refr.config.Formable := by
      rw [same]
      exact ⟨length, (designated_pathK hc).symm ▸ factor⟩
    rw [takeGateEndRefr_moved due pending held, moved]
    exact ⟨rfl, designatedCount_eq hc, rfl, congrArg some (formN_base before formable fun _ => rfl)⟩
  · rw [Refractivity.moveTracker_frozen before frozen, if_neg (lost ∘ (designatedTracking_iff hc).mp)] at moved
    rw [takeGateEndRefr_moved due pending held, moved]
    exact ⟨frozen, rfl, congrArg some (formN_unfollowed before (frozen ▸ nofun))⟩
  · rw [Refractivity.moveTracker_absent absent] at moved
    rw [takeGateEndRefr_moved due pending held, moved]
    exact ⟨absent, congrArg some (formN_unfollowed before (absent ▸ nofun))⟩
  · obtain ⟨env, age, -⟩ := aged.counted force fresh below
    refine ⟨env, age, takeGateEndRefr_quiet due pending held ?_⟩
    rw [agesToStale, decide_eq_false (p := staleLimit s.params ≤ s.refr.age + 1) (Nat.not_le.mpr below), Bool.and_false]
  · obtain ⟨env, age, -⟩ := aged.still stale
    refine ⟨env, age, takeGateEndRefr_quiet due pending held ?_⟩
    rw [agesToStale, stale]
    rfl

/-! ## Updates -/

namespace Refractivity

variable {r : Refractivity} {scanOpen : Bool} {stepMax count u : Int}

/-- A newer update that is pending stays pending (R40). -/
theorem promote_keeps_pending (pending : r.pending = some u) (scanOpen : Bool) :
    (r.promote scanOpen).pending = some u := by
  unfold promote
  split
  · exact pending
  · split
    · exact pending
    · exact (congrArg Refractivity.pending (if_pos (by rw [pending]; rfl))).trans pending

theorem promote_promotes (held : r.held = some u) (pending : r.pending = none) :
    (r.promote false).pending = some u := by
  rw [promote, held, pending]; rfl

/-- The unit after an update is held (R39). -/
theorem settleUpdate_held (vacuum : r.config.vacuum = false) (pending : r.pending = some u)
    (must : mustHold scanOpen stepMax count u r = true) :
    r.settleUpdate scanOpen stepMax count = { r with held := some u, pending := none, result := .held } ∧
      appliesUpdate scanOpen stepMax count r = false := by
  rw [settleUpdate, appliesUpdate, vacuum, pending]
  exact ⟨if_pos must, by simp [must]⟩

/-- The unit after an update is applied (R39, R41). -/
theorem settleUpdate_applied (vacuum : r.config.vacuum = false) (pending : r.pending = some u)
    (free : mustHold scanOpen stepMax count u r = false) :
    r.settleUpdate scanOpen stepMax count =
        { r with
          nBase := u, tBase := if r.tracker = .following then count else r.tBase, held := none, pending := none
          age := 0, env := .fresh, result := .applied } ∧
      appliesUpdate scanOpen stepMax count r = true := by
  rw [settleUpdate, appliesUpdate, vacuum, pending]
  exact ⟨if_neg (Bool.not_eq_true _ ▸ free), by simp [free]⟩

end Refractivity

theorem mustHold_iff {scanOpen : Bool} {stepMax count u : Int} {r : Refractivity} :
    mustHold scanOpen stepMax count u r = true ↔ scanOpen = true ∧ stepMax < (u - formN count r).natAbs := by
  rw [mustHold, Bool.and_eq_true, decide_eq_true_eq]
  exact and_congr_right fun _ => by omega

section

variable {s : State} {u : Int}

theorem refrConfigured_config_vacuum (vacuum : s.params.vacuum = false) : (refrConfigured s).config.vacuum = false := by
  rw [refrConfigured_frame]
  exact vacuum

/-- A gate end that applies an update: base and N formed are the update, the environment is FRESH, and the arrival is not
counted (R39, R41). -/
theorem takeGateEndRefr_applied (due : s.due.refractivity = true) (vacuum : s.params.vacuum = false)
    (formable : s.params.refrConfig.Formable) (pending : (refrConfigured s).pending = some u) (range : IsRefractivity u)
    (free : mustHold s.scanIsOpen s.params.envStepMax (designatedCount s) u (refrConfigured s) = false) :
    takeGateEndRefr s =
      gateTaken
        { refrConfigured s with
          nBase := u
          tBase := if (refrConfigured s).tracker = .following then designatedCount s else (refrConfigured s).tBase
          held := none, pending := none, age := 0, env := .fresh, result := .applied, nFormed := some u } s := by
  obtain ⟨settled, applies⟩ := Refractivity.settleUpdate_applied (refrConfigured_config_vacuum vacuum) pending free
  rw [takeGateEndRefr_of_due due, if_pos applies, formedRefr, trackerCount_configured, settled]
  have formable' : (refrConfigured s).config.Formable := by rw [refrConfigured_frame]; exact formable
  have formed := formN_base (count := designatedCount s) (r := { refrConfigured s with
      nBase := u
      tBase := if (refrConfigured s).tracker = .following then designatedCount s else (refrConfigured s).tBase
      held := none, pending := none, age := 0, env := .fresh, result := .applied })
    (refrConfigured_config_vacuum vacuum) formable' (fun following => if_pos following)
  simp only [formed, clampN_eq_self range]

/-- A gate end that holds an update (R39). -/
theorem takeGateEndRefr_held (due : s.due.refractivity = true) (vacuum : s.params.vacuum = false)
    (pending : (refrConfigured s).pending = some u)
    (must : mustHold s.scanIsOpen s.params.envStepMax (designatedCount s) u (refrConfigured s) = true) :
    takeGateEndRefr s =
      ageEnvironment (gateTaken
        { refrConfigured s with
          held := some u, pending := none, result := .held
          nFormed := some (formN (designatedCount s) (movedRefr s)) } s) := by
  obtain ⟨settled, applies⟩ := Refractivity.settleUpdate_held (refrConfigured_config_vacuum vacuum) pending must
  rw [takeGateEndRefr_of_due due, applies, if_neg (by decide), formedRefr, trackerCount_configured, settled,
    ← formN_promote s.scanIsOpen (designatedCount s) (movedRefr s), ← refrConfigured_eq]
  rfl

/-- An update pending at a gate end with no scan open is applied (R39, R40). -/
theorem takeGateEndRefr_applies_closed (due : s.due.refractivity = true) (vacuum : s.params.vacuum = false)
    (formable : s.params.refrConfig.Formable)
    (pending : (refrConfigured s).pending = some u) (range : IsRefractivity u) (closed : s.scanIsOpen = false) :
    (takeGateEndRefr s).refr.held = none ∧ (takeGateEndRefr s).refr.pending = none ∧
      (takeGateEndRefr s).refr.nBase = u ∧ (takeGateEndRefr s).refr.nFormed = some u ∧
      (takeGateEndRefr s).refr.result = .applied ∧ (takeGateEndRefr s).refr.env = .fresh ∧
      (takeGateEndRefr s).refr.age = 0 := by
  rw [takeGateEndRefr_applied due vacuum formable pending range (by rw [mustHold, closed]; rfl)]
  exact ⟨rfl, rfl, rfl, rfl, rfl, rfl, rfl⟩

variable (same : s.refr.config = s.params.refrConfig) (vacuum : s.params.vacuum = false)

include same vacuum

theorem movedRefr_waits : (movedRefr s).pending = s.refr.pending ∧ (movedRefr s).held = s.refr.held ∧
    (movedRefr s).result = s.refr.result := by
  rw [movedRefr_of_same same vacuum, Refractivity.moveTracker_frame]
  exact ⟨rfl, rfl, rfl⟩

/-- With the configuration unchanged the N without the update is that of the tracker in force (R39). -/
theorem movedRefr_eq :
    movedRefr s = s.refr.moveTracker (trackerTracking s) (trackerCount s) ∧ trackerCount s = designatedCount s := by
  have designation : s.refr.config.tracker = s.params.trackerCh := congrArg RefrConfig.tracker same
  have tracking : trackerTracking s = designatedTracking s := by
    rw [trackerTracking, designatedTracking, designation] <;> rfl
  have count : trackerCount s = designatedCount s := by rw [trackerCount, designatedCount, designation] <;> rfl
  exact ⟨by rw [movedRefr_of_same same vacuum, tracking, count], count⟩

end

/-- Settles O24: `mustHold` decides between the two, and `promote` makes a held update pending. -/
theorem updatesAreAppliedHeldOrPromoted : Obligations.UpdatesAreAppliedHeldOrPromoted := by
  intro s high due same vacuum length factors
  have formable := formable_refrConfig length factors
  obtain ⟨moved, count⟩ := movedRefr_eq same vacuum
  obtain ⟨waits, holds, results⟩ := movedRefr_waits same vacuum
  have configured := refrConfigured_eq s
  refine ⟨fun u pending range => ?_, fun h held range pending => ?_, fun h u held pending range closed => ?_⟩
  · have pending' : (refrConfigured s).pending = some u := by
      rw [configured]; exact Refractivity.promote_keeps_pending (waits.trans pending) _
    have without : formN (designatedCount s) (refrConfigured s) =
        formN (trackerCount s) (s.refr.moveTracker (trackerTracking s) (trackerCount s)) := by
      rw [configured, formN_promote, moved, count]
    rw [← without]
    cases must : mustHold s.scanIsOpen s.params.envStepMax (designatedCount s) u (refrConfigured s) with
    | true =>
      obtain ⟨isOpen, exceeds⟩ := mustHold_iff.mp must
      have taken := takeGateEndRefr_held due vacuum pending' must
      have refr := (congrArg State.refr taken).trans ((ageEnvironment_refr _).trans (Refractivity.countAge_frame _ _))
      refine ⟨takeGateEndRefr s, _, live_of_high high _, by rw [refr]; rfl, rfl, fun _ _ => ?_, fun free => ?_⟩
      · rw [refr]
        refine ⟨rfl, rfl, ?_, fun unfollowed => ?_⟩
        · exact congrArg some ((formN_promote s.scanIsOpen _ _).symm.trans (by rw [configured]))
        · have base : (movedRefr s).nBase = s.refr.nBase := by
            rw [movedRefr_of_same same vacuum]
            exact (Refractivity.moveTracker_unfollowed (same ▸ vacuum) unfollowed).1
          exact (congrArg Refractivity.nBase (configured.trans (Refractivity.promote_frame _ _))).trans base
      · rcases free with closed | within
        · rw [closed] at isOpen; cases isOpen
        · exact absurd exceeds (Int.not_lt.mpr within)
    | false =>
      have taken := takeGateEndRefr_applied due vacuum formable pending' range must
      refine ⟨takeGateEndRefr s, _, live_of_high high _, by rw [taken]; rfl, rfl, fun isOpen exceeds => ?_, fun _ => ?_⟩
      · exact absurd (mustHold_iff.mpr ⟨isOpen, exceeds⟩) (by rw [must]; decide)
      · rw [taken]
        refine ⟨rfl, rfl, rfl, rfl, rfl, rfl, fun following => ?_, rfl⟩
        rw [count]
        exact if_pos following
  · cases isOpen : s.scanIsOpen with
    | false =>
      have pending' : (refrConfigured s).pending = some h := by
        rw [configured, isOpen]; exact Refractivity.promote_promotes (holds.trans held) (waits.trans pending)
      obtain ⟨held, pending, base, formed, result, env, age⟩ :=
        takeGateEndRefr_applies_closed due vacuum formable pending' range isOpen
      exact ⟨takeGateEndRefr s, live_of_high high _, pending, fun _ => ⟨held, base, formed, result, env, age⟩, nofun⟩
    | true =>
      have stays : (movedRefr s).promote s.scanIsOpen = movedRefr s := if_pos isOpen
      have none : (refrConfigured s).pending = none := by rw [configured, stays, waits, pending]
      have refr := takeGateEndRefr_forms due (.inr none)
      rw [stays] at refr
      refine ⟨takeGateEndRefr s, live_of_high high _, by rw [refr]; exact waits.trans pending, nofun, fun _ => ?_⟩
      rw [refr]
      exact ⟨holds.trans held, results⟩
  · have pending' : (refrConfigured s).pending = some u := by
      rw [configured]; exact Refractivity.promote_keeps_pending (waits.trans pending) _
    obtain ⟨held, pending, base, formed, result, -⟩ :=
      takeGateEndRefr_applies_closed due vacuum formable pending' range closed
    exact ⟨takeGateEndRefr s, live_of_high high _, held, pending, base, formed, result⟩

end Sys2Proof.Machine
end

section
/-! PROOFS. The environment link (R38, R188, R189). -/

namespace Sys2Proof.Machine

/-! ## The end of a write -/

theorem endWrite_none {s : State} (h : s.env.message = none) : endWrite s = s := by rw [endWrite, h]

theorem endWrite_some {s : State} {bytes : List Byte} (h : s.env.message = some bytes) :
    endWrite s =
      { s with refr := applyWrite (classifyWrite bytes) s.refr, env := { s.env with message := none } } := by
  rw [endWrite, h]

theorem endWrite_message (s : State) : (endWrite s).env.message = none := by rw [endWrite_frame]

/-- A row ends the write in progress where its bytes are of the row's kind. -/
theorem endWriteIf_kind {kind : WriteClass → Bool} {s : State} {bytes : List Byte} (h : s.env.message = some bytes)
    (hk : kind (classifyWrite bytes) = true) : endWriteIf kind s = endWrite s :=
  if_pos (by rw [h, Option.map_some, hk])

theorem classifyWrite_update (b3 b2 b1 b0 : Byte) :
    classifyWrite [0x00, b3, b2, b1, b0] =
      .update (((b3.toNat * 256 + b2.toNat) * 256 + b1.toNat) * 256 + b0.toNat) := by
  have value : unsignedOf [b3, b2, b1, b0] = ((b3.toNat * 256 + b2.toNat) * 256 + b1.toNat) * 256 + b0.toNat := by
    simp only [unsignedOf, List.foldl]
    ring
  rw [← value, classifyWrite, if_neg (fun h => by cases h.2), if_pos ⟨rfl, rfl⟩]

/-- Every write but a pointer 0x08 alone and a pointer 0x00 with four data bytes is malformed (R188). -/
theorem classifyWrite_malformed {bytes : List Byte} (notPointer : bytes ≠ [0x08])
    (notUpdate : ∀ b3 b2 b1 b0 : Byte, bytes ≠ [0x00, b3, b2, b1, b0]) : classifyWrite bytes = .malformed := by
  match bytes with
  | [] => rfl
  | pointer :: data =>
    refine (if_neg ?_).trans (if_neg ?_)
    · rintro ⟨rfl, rfl⟩
      exact notPointer rfl
    · rintro ⟨rfl, four⟩
      obtain ⟨b3, b2, b1, b0, rfl⟩ := List.length_eq_four.mp four
      exact notUpdate b3 b2 b1 b0 rfl

/-- A well-formed update is ignored in vacuum mode, clamped above the limit, and else waits (R38). -/
theorem Refractivity.update_eq (nAbs : Nat) (r : Refractivity) :
    r.update nAbs =
      if r.vacuumInForce then { r with result := .ignored }
      else if 4000000 < nAbs then { r with pending := some 4000000, result := .clamped }
      else { r with pending := some (nAbs : Int), result := .pending } := by
  unfold Refractivity.update
  split
  · rfl
  · by_cases above : 4000000 < nAbs
    · rw [if_pos above]
      exact if_pos (Int.ofNat_lt.mpr above)
    · rw [if_neg above]
      exact if_neg fun h => above (Int.ofNat_lt.mp h)

/-- Settles O25: each row ends the write that `classifyWrite` names. -/
theorem environmentWritesEnd : Obligations.EnvironmentWritesEnd := by
  refine ⟨fun s b3 b2 b1 b0 high message => ?_, fun s m high message notPointer notUpdate => ?_, fun s high message => ?_⟩
  · have kind := classifyWrite_update b3 b2 b1 b0
    show live s (endWriteIf _) = _
    rw [live_of_high high, endWriteIf_kind message (by rw [kind]; rfl), endWrite_some message, kind]
    refine congrArg (fun r => Host.Outcome.next { s with refr := r, env := { s.env with message := none } }) ?_
    exact Refractivity.update_eq _ _
  · have kind := classifyWrite_malformed notPointer notUpdate
    show live s (endWriteIf _) = _
    rw [live_of_high high, endWriteIf_kind message (by rw [kind]; rfl), endWrite_some message, kind]
    refine congrArg (fun r => Host.Outcome.next { s with refr := r, env := { s.env with message := none } }) ?_
    show s.refr.malformed = _
    unfold Refractivity.malformed
    split <;> rfl
  · show live s (endWriteIf _) = _
    rw [live_of_high high, endWriteIf_kind message rfl, endWrite_some message]
    rfl

/-! ## A START -/

theorem takeStart_message {address : BitVec 7} {addrPin : Bool} {s : State} (taken : State → State) :
    takeStart address addrPin taken s = takeStart address addrPin taken (endWrite s) := by
  rw [takeStart, takeStart, endWrite_none (endWrite_message s)]

/-- The row that ends the write in progress. -/
theorem exec_endsWrite {s : State} {bytes : List Byte} (high : s.resetLow = false) (message : s.env.message = some bytes) :
    ∃ e : Instr, (e = .envUpdate ∨ e = .malformedUpdate ∨ e = .pointerSet) ∧ exec e s = .next (endWrite s) := by
  cases kind : classifyWrite bytes with
  | update nAbs =>
    refine ⟨.envUpdate, .inl rfl, ?_⟩
    show live s (endWriteIf _) = _
    rw [live_of_high high, endWriteIf_kind message (by rw [kind]; rfl)]
  | malformed =>
    refine ⟨.malformedUpdate, .inr (.inl rfl), ?_⟩
    show live s (endWriteIf _) = _
    rw [live_of_high high, endWriteIf_kind message (by rw [kind]; rfl)]
  | pointerSet =>
    refine ⟨.pointerSet, .inr (.inr rfl), ?_⟩
    show live s (endWriteIf _) = _
    rw [live_of_high high, endWriteIf_kind message (by rw [kind]; rfl)]

theorem exec_envWriteBegin {s : State} (high : s.resetLow = false) (a : BitVec 7) (pin : Bool) (bytes : List Byte) :
    exec (.envWriteBegin a pin bytes) s = .next (takeStart a pin (beginWrite bytes) s) := live_of_high high _

theorem exec_statusBlockRead {s : State} (high : s.resetLow = false) (a : BitVec 7) (pin : Bool) :
    exec (.statusBlockRead a pin) s = .next (takeStart a pin beginRead s) := live_of_high high _

theorem statusBlock_eq (r : Refractivity) :
    statusBlock r = be 1 r.result.number ++ be 1 r.env.number ++ be 4 r.nInUse := by
  rw [statusBlock, beNat, beNat, updateResult_code_eq_number, envState_code_eq_number]

/-- The bytes that a status read returns, by position (R189). -/
theorem envRead_statusBlock {s : State} {r : Refractivity} (out : s.env.out = statusBlock r) :
    s.envRead 0 = BitVec.ofInt 8 r.result.number ∧ s.envRead 1 = BitVec.ofInt 8 r.env.number ∧
      (∀ k b, (be 4 r.nInUse)[k]? = some b → s.envRead (2 + k) = b) ∧ ∀ k, 6 ≤ k → s.envRead k = 0x00 := by
  rw [statusBlock_eq] at out
  have bytes : s.env.out = [BitVec.ofInt 8 r.result.number, BitVec.ofInt 8 r.env.number] ++ be 4 r.nInUse := out
  unfold State.envRead
  rw [bytes]
  refine ⟨rfl, rfl, fun k b hb => ?_, fun k hk => ?_⟩
  · rw [List.getD_append_right _ _ _ _ (Nat.le_add_right 2 k), List.getD_eq_getElem?_getD]
    show (be 4 r.nInUse)[2 + k - 2]?.getD _ = b
    rw [Nat.add_sub_cancel_left, hb]
    rfl
  · exact List.getD_eq_default _ _ (by simpa using hk)

/-- What the part acknowledges after a START (R188). -/
theorem envAck_takeStart {a : BitVec 7} {pin : Bool} {taken : State → State} {n : Nat} (s : State)
    (counts : ∀ t, (taken t).env.acknowledged = 1 + n) (k : Nat) :
    (takeStart a pin taken s).envAck k = true ↔ a = (if pin then 0x4F else 0x4E) ∧ k ≤ n := by
  rw [State.envAck, decide_eq_true_eq]
  by_cases own : a = linkAddress pin
  · rw [takeStart, if_pos own, counts, Nat.add_comm, Nat.lt_succ_iff]
    exact (and_iff_right own).symm
  · rw [takeStart, if_neg own]
    exact iff_of_false (Nat.not_lt_zero k) fun h => own h.1

/-- Settles O26: a START after the end of the write in progress, at the part's address and elsewhere. -/
theorem environmentStartsAreTaken : Obligations.EnvironmentStartsAreTaken := by
  intro s a pin bytes high
  rw [exec_envWriteBegin high, exec_statusBlockRead high]
  refine ⟨fun idle => ⟨fun own => ?_, fun other => ?_⟩, ⟨_, _, rfl, rfl, fun k => ⟨?_, ?_⟩⟩, fun m message => ?_⟩
  · have same : a = linkAddress pin := own
    rw [same, takeStart_own, takeStart_own, endWrite_none idle]
    refine ⟨rfl, ?_, _, rfl, envRead_statusBlock rfl⟩
    rw [← statusBlock_eq]
    rfl
  · have elsewhere : a ≠ linkAddress pin := other
    rw [takeStart, takeStart, if_neg elsewhere, if_neg elsewhere, endWrite_none idle]
    exact ⟨rfl, rfl⟩
  · exact envAck_takeStart s (fun _ => rfl) k
  · exact (envAck_takeStart (n := 0) s (fun _ => rfl) k).trans (and_congr_right fun _ => Nat.le_zero)
  · obtain ⟨e, kind, run⟩ := exec_endsWrite high message
    have still : (endWrite s).resetLow = false := by rw [endWrite_frame]; exact high
    refine ⟨e, endWrite s, kind, run, endWrite_message s, still, ?_, ?_⟩
    · rw [exec_envWriteBegin still, ← takeStart_message]
    · rw [exec_statusBlockRead still, ← takeStart_message]

end Sys2Proof.Machine
end

section
/-! PROOFS. The gate end: the report, the gate's numbers and lengths, and what the Motion Monitor forms for each axis (R89 to
R99). -/

namespace Sys2Proof.Machine

/-! ## The last sample set at a gate end -/

/-- `t` reads the last sample set as `u` does: which axes are defined, whether they track, and their geometric sums. -/
structure ReadsAlike (u t : State) : Prop where
  undefined : ∀ j, (t.axes.get j).state = .undefined ↔ (u.axes.get j).state = .undefined
  tracking : ∀ j, t.allTracking j = u.allTracking j
  sum : ∀ j, geometricSum t j = geometricSum u j

theorem ReadsAlike.refl (s : State) : ReadsAlike s s := ⟨fun _ => Iff.rfl, fun _ => rfl, fun _ => rfl⟩

theorem readsAlike_of_eq {u t : State} (undefined : ∀ j, (t.axes.get j).state = .undefined ↔ (u.axes.get j).state = .undefined)
    (params : t.params = u.params) (channels : t.channels = u.channels) (inUse : t.refr.nInUse = u.refr.nInUse) :
    ReadsAlike u t := by
  refine ⟨undefined, fun j => ?_, fun j => ?_⟩
  · unfold State.allTracking
    rw [params, channels]
  · unfold geometricSum channelDisplacement
    rw [params, channels, inUse]

theorem AxesOk.arrived {s : State} (h : AxesOk s) (v : BitVec 16) (l : Bool) : AxesOk (arrived v l s) :=
  ((Moves.setPort []).trans (arrive_moves _ l _)).keeps Move.keeps_axesOk h

/-- Under the law of the axes every block's taking of the gate end leaves which axes are defined, as the weights say it. -/
theorem readsAlike_takeAll {s : State} (h : AxesOk s) : ReadsAlike s (takeAll s) := by
  have after : AxesOk (takeAll s) := (takeAll_moves s).keeps Move.keeps_axesOk h
  refine readsAlike_of_eq (fun j => ?_) (by simp) (by simp) (takeAll_inUse s).1
  rw [after.weights j, takeAll_params, ← h.weights j]

theorem takeAll_due_nothing (s : State) : (takeAll s).due = .nothing := by simp

theorem readsAlike_closeGate (s : State) : ReadsAlike s (closeGate s) := ⟨fun _ => Iff.rfl, fun _ => rfl, fun _ => rfl⟩

theorem ReadsAlike.trans {s t u : State} (h : ReadsAlike s t) (g : ReadsAlike t u) : ReadsAlike s u :=
  ⟨fun j => (g.undefined j).trans (h.undefined j), fun j => (g.tracking j).trans (h.tracking j),
    fun j => (g.sum j).trans (h.sum j)⟩

/-- The part when the Motion Monitor closes the gate of an arrival. -/
theorem exec_gate {s : State} {i : Instr} {v : BitVec 16} {l : Bool} (row : sampleRow i = some (v, l))
    (high : s.resetLow = false) (full : s.samplePort.length = 7)
    (gate : s.motion.gateCounter + 1 = s.motion.gateLength) (law : i = .gateEnd v l → AxisLaw s) :
    ∃ t, exec i s = .next t ∧ t.motion = (closeGate (settled v l s)).motion ∧ ReadsAlike (settled v l s) t ∧
      ((i = .gateEnd v l ∧ t.due = .nothing) ∨ (i ≠ .gateEnd v l ∧ t = closeGate (settled v l s))) := by
  by_cases whole : i = .gateEnd v l
  · have ok : AxesOk (closeGate (settled v l s)) := by
      rw [← arrived_of_gate gate]
      exact ((axisLaw_iff s).mp (law whole)).arrived v l
    subst whole
    refine ⟨_, exec_gateEnd high full, ?_, ?_, .inl ⟨rfl, takeAll_due_nothing _⟩⟩
    · rw [takeAll_motion, arrived_of_gate gate]
    · rw [arrived_of_gate gate]
      exact (readsAlike_closeGate _).trans (readsAlike_takeAll ok)
  · refine ⟨_, exec_arrival_left row (.inl whole) high full, ?_, ?_, .inr ⟨whole, arrived_of_gate gate⟩⟩
    · rw [arrived_of_gate gate]
    · rw [arrived_of_gate gate]
      exact readsAlike_closeGate _

/-! ## The monitor after a gate end -/

theorem adoptLength_get (length : Nat) (m : Motion) (j : Fin 4) :
    (m.adoptLength length).axes.get j =
      if length = m.gateLength then m.axes.get j
      else { m.axes.get j with reference := none, steadyCount := 0, steady := false } := by
  unfold Motion.adoptLength
  split
  · rfl
  · rw [Four.get_mapIdx]; rfl

theorem adoptLength_gateLength (length : Nat) (m : Motion) : (m.adoptLength length).gateLength = length := by
  unfold Motion.adoptLength
  split
  next same => exact same.symm
  next => rfl

theorem adoptLength_gateCounter (length : Nat) (m : Motion) : (m.adoptLength length).gateCounter = m.gateCounter := by
  unfold Motion.adoptLength
  split <;> rfl

theorem measuredAxes_get (s : State) (j : Fin 4) : (measuredAxes s).get j = axisGateEnd s j (s.motion.axes.get j) :=
  Four.get_mapIdx ..

theorem closeGate_axes_get (s : State) (j : Fin 4) :
    (closeGate s).motion.axes.get j =
      if 256 * 2 ^ s.params.gateSel = s.motion.gateLength then (measuredAxes s).get j
      else { (measuredAxes s).get j with reference := none, steadyCount := 0, steady := false } :=
  adoptLength_get _ _ _

theorem closeGate_gateCounter (s : State) : (closeGate s).motion.gateCounter = 0 := adoptLength_gateCounter _ _

theorem closeGate_gateNumber (s : State) : (closeGate s).motion.gateNumber = s.motion.gateNumber + 1 :=
  adoptLength_gateNumber _ _

theorem closeGate_gateLength (s : State) : (closeGate s).motion.gateLength = 256 * 2 ^ s.params.gateSel :=
  adoptLength_gateLength _ _

theorem gateReport_get (s : State) (j : Fin 4) :
    (gateReport s).axes.get j = reportAxis s j ((measuredAxes s).get j) := Four.get_mapIdx ..

theorem axisGateEnd_undefined {s : State} {j : Fin 4} (h : (s.axes.get j).state = .undefined) (m : AxisMotion) :
    axisGateEnd s j m = .reset := if_pos h

theorem axisGateEnd_defined {s : State} {j : Fin 4} (h : (s.axes.get j).state ≠ .undefined) (m : AxisMotion) :
    axisGateEnd s j m = measureAxis s j m := if_neg h

theorem axisGateEnd_prevSum (s : State) (j : Fin 4) (m : AxisMotion) :
    (axisGateEnd s j m).prevSum =
      if (s.axes.get j).state = .undefined then none
      else if s.allTracking j then some (geometricSum s j) else none := by
  unfold axisGateEnd
  split <;> rfl

theorem axisGateEnd_steady (s : State) (j : Fin 4) (m : AxisMotion) :
    (axisGateEnd s j m).steady = true ↔
      (s.axes.get j).state ≠ .undefined ∧ s.params.stableGates ≤ (axisGateEnd s j m).steadyCount := by
  unfold axisGateEnd
  split
  next undefined => exact iff_of_false nofun fun h => h.1 undefined
  next defined => exact decide_eq_true_iff.trans (and_iff_right defined).symm

/-- Settles O27: `closeGate` on the settled part, from which every row's part reads its axes. -/
theorem gateEndsCloseTheGate : Obligations.GateEndsCloseTheGate := by
  intro s i v l row high full
  refine ⟨fun within => ?_, fun gate law => ?_⟩
  · refine ⟨_, exec_arrival_left row (.inr within) high full, ?_, arrived_due v l within⟩
    rw [arrived_of_counted within, ageEnvironment_frame]
  · obtain ⟨t, run, motion, alike, due⟩ := exec_gate row high full gate law
    have params := settled_params v l s
    have before := settled_motion v l s
    generalize settled v l s = u at *
    refine ⟨t, measuredAxes u, run, ?_, ?_, ?_, fun j => ⟨?_, ?_, ?_⟩, fun whole => ?_, fun left => ?_⟩
    · rw [motion, closeGate_gateCounter]
    · rw [motion, closeGate_gateNumber, before]
    · rw [motion, closeGate_gateLength, params]
    · rw [measuredAxes_get, axisGateEnd_prevSum, alike.tracking, alike.sum]
      simp only [alike.undefined]
    · rw [measuredAxes_get, axisGateEnd_steady, params, ne_eq, ne_eq, alike.undefined]
    · rw [motion, closeGate_axes_get, params, before]
    · rcases due with ⟨-, due⟩ | ⟨left, -⟩
      · exact due
      · exact absurd whole left
    · rcases due with ⟨whole, -⟩ | ⟨-, rfl⟩
      · exact absurd whole left
      · refine ⟨gateReport u, rfl, congrArg Motion.gateNumber before, congrArg Motion.gateLength before,
          congrArg Params.tNs params, fun j => ?_⟩
        rw [gateReport_get]
        exact ⟨rfl, rfl, rfl, rfl, rfl, rfl, rfl, rfl, rfl⟩

/-! ## The measurement of an axis -/

/-- Without a previous sum, or where a weighted channel does not track, no velocity is formed (R94, R96 to R98). -/
theorem measureAxis_invalid {s : State} {j : Fin 4} {m : AxisMotion} (h : velocityAt s j m = none) :
    (measureAxis s j m).valid = false ∧ (measureAxis s j m).velocity = 0 ∧ (measureAxis s j m).reported = 0 ∧
      (measureAxis s j m).sign = .none ∧ (measureAxis s j m).fast = false ∧ (measureAxis s j m).reference = none ∧
      (measureAxis s j m).steadyCount = 0 := by
  unfold measureAxis
  rw [h]
  exact ⟨rfl, rfl, by simp [reportedVelocity], rfl, rfl, rfl, rfl⟩

theorem velocityAt_none {s : State} {j : Fin 4} {m : AxisMotion} (h : m.prevSum = none ∨ s.allTracking j = false) :
    velocityAt s j m = none := by
  unfold velocityAt
  rcases h with h | h
  · rw [h]
  · split
    · exact if_neg (by rw [h]; decide)
    · rfl

theorem velocityAt_some {s : State} {j : Fin 4} {m : AxisMotion} {prev : Int} (before : m.prevSum = some prev)
    (tracking : s.allTracking j = true) :
    velocityAt s j m = some (clampTo (-2147483647) 2147483647 (geometricSum s j - prev)) := by
  unfold velocityAt
  rw [before]
  exact if_pos tracking

theorem signOf_cases (v : Int) :
    (0 < v → signOf v = .positive) ∧ (v < 0 → signOf v = .negative) ∧ (v = 0 → signOf v = .zero) := by
  refine ⟨fun h => if_pos h, fun h => (if_neg (by omega)).trans (if_pos h), fun h => ?_⟩
  subst h
  rfl

/-- A velocity is formed where both ends of the gate track (R94, R96, R98). -/
theorem measureAxis_valid {s : State} {j : Fin 4} {m : AxisMotion} {vel : Int} (h : velocityAt s j m = some vel) :
    (measureAxis s j m).valid = true ∧ (measureAxis s j m).velocity = vel ∧
      (measureAxis s j m).reported = reportedVelocity vel s.motion.gateLength s.params.tNs ∧
      (measureAxis s j m).sign = signOf vel ∧
      ((measureAxis s j m).fast = true ↔ s.params.vMax < |(measureAxis s j m).reported|) ∧
      (measureAxis s j m).reference = (steadyTest s.params.hyst (some vel) m).1 ∧
      (measureAxis s j m).steadyCount = (steadyTest s.params.hyst (some vel) m).2 := by
  unfold measureAxis
  rw [h]
  refine ⟨rfl, rfl, rfl, rfl, ?_, rfl, rfl⟩
  simp only [Option.isSome_some, Bool.true_and, decide_eq_true_eq, Option.getD_some]
  rw [lt_abs]
  omega

theorem satSucc_eq_min (top n : Nat) : satSucc top n = min top (n + 1) := by
  unfold satSucc
  split <;> omega

/-- Without a reference velocity the velocity becomes it (R97). -/
theorem steadyTest_fresh {hyst vel : Int} {m : AxisMotion} (h : m.reference = none) :
    steadyTest hyst (some vel) m = (some vel, 0) := by
  unfold steadyTest
  rw [h]

/-- The steady test against a reference velocity (R97). -/
theorem steadyTest_reference {hyst vel ref : Int} {m : AxisMotion} (h : m.reference = some ref) :
    (|vel - ref| ≤ hyst →
      steadyTest hyst (some vel) m = (some ref, satSucc 255 m.steadyCount)) ∧
    (hyst < |vel - ref| → steadyTest hyst (some vel) m = (some vel, 0)) := by
  unfold steadyTest
  rw [h]
  simp only [withinHyst, decide_eq_true_eq, ← abs_le]
  exact ⟨fun within => if_pos within, fun exceeds => if_neg (not_le.mpr exceeds)⟩

/-- Settles O28: `measureAxis` on the settled part, case by case. -/
theorem gateEndsMeasureEachAxis : Obligations.GateEndsMeasureEachAxis := by
  intro s i v l row high full gate law
  obtain ⟨t, run, motion, alike, due⟩ := exec_gate row high full gate law
  have params := settled_params v l s
  have before := settled_motion v l s
  generalize settled v l s = u at *
  refine ⟨t, measuredAxes u, run, fun j => ⟨?_, fun r hr => ?_, fun undefined => ?_, fun defined => ?_⟩⟩
  · rw [motion, closeGate_axes_get, params, before]
  · rcases due with ⟨-, due⟩ | ⟨-, rfl⟩
    · rw [due] at hr; cases hr
    · cases hr
      rw [gateReport_get]
      exact ⟨rfl, rfl, rfl, rfl, rfl, rfl⟩
  · rw [measuredAxes_get, axisGateEnd_undefined ((alike.undefined j).mp undefined)]
    rfl
  · have defined := defined ∘ (alike.undefined j).mpr
    rw [measuredAxes_get, axisGateEnd_defined defined, before, alike.tracking, alike.sum, ← params]
    refine ⟨rfl, fun none => measureAxis_invalid (velocityAt_none none), fun prev some tracking => ?_, decide_eq_true_iff⟩
    obtain ⟨valid, velocity, reported, sign, fast, reference, count⟩ := measureAxis_valid (velocityAt_some some tracking)
    obtain ⟨positive, negative, zero⟩ := signOf_cases (clampTo (-2147483647) 2147483647 (geometricSum u j - prev))
    refine ⟨_, rfl, valid, velocity, by rw [reported, before]; rfl, sign ▸ positive, sign ▸ negative, sign ▸ zero, fast,
      fun fresh => ?_, fun ref held => ?_⟩
    · rw [reference, count, steadyTest_fresh fresh]
      exact ⟨rfl, rfl⟩
    · rw [reference, count]
      obtain ⟨within, exceeds⟩ := steadyTest_reference (hyst := u.params.hyst)
        (vel := clampTo (-2147483647) 2147483647 (geometricSum u j - prev)) held
      refine ⟨fun h => ?_, fun h => ?_⟩
      · rw [within h]
        exact ⟨rfl, satSucc_eq_min 255 _⟩
      · rw [exceeds h]
        exact ⟨rfl, rfl⟩

end Sys2Proof.Machine
end

section
/-! PROOFS. SET PARAM and GET PARAM: the tests of a write in their order, and what a changed parameter does at once (R31, R44,
R50, R67 to R69, R95, R158, R181, R182). -/

namespace Sys2Proof.Machine

/-! ## The tests of a write -/

section

variable {q : Param} {value : BitVec 32} {s : State}

theorem writeParam_invalid (invalid : validCode q (paramField q value) = false) :
    writeParam q value s = .keep s .badArgument (paramBytes s.params q) := if_pos invalid

theorem writeParam_scanOpen (valid : validCode q (paramField q value) = true) (enters : entersArithmetic q = true)
    (isOpen : s.scanIsOpen = true) : writeParam q value s = .keep s .scanOpen (paramBytes s.params q) := by
  unfold writeParam
  simp only [valid, enters, isOpen]
  rfl

/-- A valid write that no open scan refuses is taken, or conflicts (R44, R67, R181). -/
theorem writeParam_free (valid : validCode q (paramField q value) = true)
    (free : s.scanIsOpen = false ∨ entersArithmetic q = false) :
    writeParam q value s =
      if paramConflict s.params q (paramField q value) then .keep s .conflict (paramBytes s.params q)
      else
        { state := applyStore q (storeParam s.params q (paramField q value)).1 s
          status := if (storeParam s.params q (paramField q value)).2 then .clamped else .ok
          data := paramBytes (storeParam s.params q (paramField q value)).1 q } := by
  have closed : (entersArithmetic q && s.scanIsOpen) = false := by
    rcases free with h | h <;> simp [h]
  unfold writeParam
  simp only [valid, closed]
  rfl

theorem setParam_invalid (waits : s.Waits) (invalid : validCode q (paramField q value) = false) :
    takeCommand .setParam (writeParam q value) s = .next (s.answer 0x05 6 (0x10 :: be 4 (getParam s.params q))) :=
  answered (r := .keep s .badArgument (paramBytes s.params q)) waits (writeParam_invalid invalid)

theorem setParam_scanOpen (waits : s.Waits) (valid : validCode q (paramField q value) = true)
    (enters : entersArithmetic q = true) (isOpen : s.scanIsOpen = true) :
    takeCommand .setParam (writeParam q value) s = .next (s.answer 0x05 6 (0x12 :: be 4 (getParam s.params q))) :=
  answered (r := .keep s .scanOpen (paramBytes s.params q)) waits (writeParam_scanOpen valid enters isOpen)

theorem setParam_conflict (waits : s.Waits) (valid : validCode q (paramField q value) = true)
    (free : s.scanIsOpen = false ∨ entersArithmetic q = false)
    (conflict : paramConflict s.params q (paramField q value) = true) :
    takeCommand .setParam (writeParam q value) s = .next (s.answer 0x05 6 (0x1F :: be 4 (getParam s.params q))) :=
  answered (r := .keep s .conflict (paramBytes s.params q)) waits ((writeParam_free valid free).trans (if_pos conflict))

/-- A write that passes its tests is taken: the store becomes what `storeParam` gives, with what the change does at once, and
the answer carries the value stored (R181). -/
theorem setParam_taken (waits : s.Waits) (valid : validCode q (paramField q value) = true)
    (free : s.scanIsOpen = false ∨ entersArithmetic q = false)
    (agree : paramConflict s.params q (paramField q value) = false) {p : Params} {adjusted : Bool}
    (store : storeParam s.params q (paramField q value) = (p, adjusted)) :
    takeCommand .setParam (writeParam q value) s =
      .next ((applyStore q p s).answer 0x05 6 ((if adjusted then 0x01 else 0x00) :: be 4 (getParam p q))) := by
  have taken := writeParam_free valid free
  rw [agree, if_neg (by decide), store] at taken
  refine (answered waits taken).trans ?_
  cases adjusted <;> rfl

end

theorem validCode_of_codes {q : Param} {codes : List Int} (h : paramKind q = .codes codes) (v : Int) :
    validCode q v = true ↔ v ∈ codes := by
  rw [validCode, h]
  exact List.contains_iff_mem

theorem validCode_of_numeric {q : Param} {lo hi : Int} (h : paramKind q = .numeric lo hi) (v : Int) :
    validCode q v = true := by
  rw [validCode, h]

/-- The status of a stored value: CLAMPED where it differs from the value written (R181). -/
theorem status_of_stored (stored v : Int) :
    (if (stored != v) = true then (0x01 : Byte) else 0x00) = if stored = v then 0x00 else 0x01 := by
  by_cases same : stored = v
  · rw [if_pos same, if_neg (by simpa using same)]
  · rw [if_neg same, if_pos (bne_iff_ne.mpr same)]

/-! ## The parameters by their numbers -/

theorem paramOfNumber_paramNumber (q : Param) : paramOfNumber (paramNumber q) = some q := by
  cases q
  case weight j c => revert j c; decide
  case lineEdge input => cases input <;> decide
  case lineLatency input => cases input <;> decide
  case offsetS c => revert c; decide
  case offsetC c => revert c; decide
  case gainC c => revert c; decide
  case skew c => revert c; decide
  case ampMin c => revert c; decide
  case ampMax c => revert c; decide
  case pathK c => revert c; decide
  case deadPath c => revert c; decide
  case servoPresetH j => revert j; decide
  case servoPresetL j => revert j; decide
  case servoMap i => revert i; decide
  all_goals decide

theorem paramOfNumber_table {n : Nat} {q : Param} (h : n = tableNumber q) : paramOfNumber n = some q := by
  rw [h, ← paramNumber_eq_tableNumber, paramOfNumber_paramNumber]

theorem paramOfNumber_none {n : Nat} (h : ∀ q, tableNumber q ≠ n) : paramOfNumber n = none := by
  refine List.find?_eq_none.mpr fun q _ => ?_
  rw [paramNumber_eq_tableNumber]
  exact fun same => h q (beq_iff_eq.mp same)

theorem exec_setParam_number {number : BitVec 16} {q : Param} (h : number.toNat = tableNumber q) (value : BitVec 32)
    (s : State) : exec (.setParam number value) s = takeCommand .setParam (writeParam q value) s := by
  show execSetParam number value s = _
  unfold execSetParam
  rw [paramOfNumber_table h]

/-- A parameter without behaviour of its own is stored plainly, conflicts with nothing and does nothing at once. -/
theorem plain_of_noRow {q : Param} (h : hasOwnRow q = false) :
    storesPlainly q = true ∧ (∀ value, paramField q value = value.toInt) ∧ (∀ p v, paramConflict p q v = false) ∧
      ∀ p s, applyStore q p s = { s with params := p } := by
  cases q
  all_goals first
    | exact ⟨rfl, fun _ => rfl, fun _ _ => rfl, fun _ _ => rfl⟩
    | cases h

/-- Settles O29: the four outcomes of a write, by the number of the parameter. -/
theorem parametersAreWrittenAndRead : Obligations.ParametersAreWrittenAndRead := by
  refine ⟨fun q => ⟨paramOfNumber_paramNumber q, paramNumber_eq_tableNumber q⟩, fun p => ?_,
    fun s number value waits unknown => ?_, fun s number value q waits named => ⟨?_, fun plain => ?_⟩⟩
  · refine ⟨rfl, rfl, rfl, edgeCode_eq_number _, edgeCode_eq_number _, fun h => ?_, fun c h => ?_, fun i => ⟨fun h => ?_,
      fun j h => ?_⟩⟩
    · rw [getParam, h]; rfl
    · rw [getParam, h]; rfl
    · rw [getParam, h]; rfl
    · rw [getParam, h]; rfl
  · have none := paramOfNumber_none unknown
    constructor
    · show execSetParam number value s = _
      rw [execSetParam, answered (r := .keep s .badArgument (zeros 4)) waits (by rw [none])]
      rfl
    · show execGetParam number s = _
      rw [execGetParam, answered (r := .keep s .badArgument (zeros 4)) waits (by rw [none])]
      rfl
  · show execGetParam number s = _
    rw [execGetParam, answered (r := .keep s .ok (paramBytes s.params q)) waits (by rw [paramOfNumber_table named])]
    rfl
  · obtain ⟨plainly, field, agree, apply⟩ := plain_of_noRow plain
    have kind := paramKind_eq_tableKind q plain
    rw [exec_setParam_number named]
    refine ⟨fun codes hk invalid => ?_, fun codes hk valid isOpen enters => ?_, fun lo hi hk isOpen enters => ?_,
      fun free stored hs => ?_⟩
    · refine setParam_invalid waits ?_
      rw [← Bool.not_eq_true, validCode_of_codes (kind.trans hk), field]
      exact invalid
    · refine setParam_scanOpen waits ?_ ((entersArithmetic_eq q).trans enters) isOpen
      rw [validCode_of_codes (kind.trans hk), field]
      exact valid
    · exact setParam_scanOpen waits (validCode_of_numeric (kind.trans hk) _) ((entersArithmetic_eq q).trans enters) isOpen
    · have valid : validCode q value.toInt = true ∧ clampParam q value.toInt = stored := by
        rcases hs with ⟨codes, hk, mem, rfl⟩ | ⟨lo, hi, hk, rfl⟩
        · exact ⟨(validCode_of_codes (kind.trans hk) _).mpr mem, clampParam_codes (kind.trans hk) _⟩
        · exact ⟨validCode_of_numeric (kind.trans hk) _, clampParam_numeric (kind.trans hk) _⟩
      have holds : (paramKind q).Holds stored := valid.2 ▸ clampParam_holds valid.1
      have store : storeParam s.params q (paramField q value) = (putParam s.params q stored, stored != value.toInt) := by
        rw [field, storeParam_plain _ _ plainly, valid.2]
      refine ⟨putParam s.params q stored, getParam_putParam_same _ holds,
        fun q' other => getParam_putParam_ne _ _ other (isPreset_of_storesPlainly plainly), ?_⟩
      rw [setParam_taken waits (by rw [field]; exact valid.1) (free.imp_right (entersArithmetic_eq q).trans) (agree _ _) store,
        apply, getParam_putParam_same _ holds, status_of_stored]

/-! ## Halves of a preset -/

/-- The status of an answer that tells two adjustments: CLAMPED where either was made. -/
theorem status_of_adjusted (a b c d : Int) :
    (if (a != b || c != d) = true then (0x01 : Byte) else 0x00) = if a = b ∧ c = d then 0x00 else 0x01 := by
  by_cases same : a = b ∧ c = d
  · rw [if_pos same, same.1, same.2, if_neg (by simp)]
  · rw [if_neg same, if_pos]
    rw [Bool.or_eq_true, bne_iff_ne, bne_iff_ne]
    exact not_and_or.mp same

theorem storeParam_servoPresetH (p : Params) (j : Fin 4) (v : Int) {formed preset : Int}
    (hf : formed = clampTo (-32768) 32767 v * 4294967296 + p.servoPreset.get j % 4294967296)
    (hp : preset = clampTo (-140737488355327) 140737488355327 formed) :
    storeParam p (.servoPresetH j) v =
      ({ p with servoPreset := p.servoPreset.set j preset }, clampTo (-32768) 32767 v != v || preset != formed) := by
  have put : (putParam p (.servoPresetH j) (clampTo (-32768) 32767 v)).servoPreset.get j = formed := by
    rw [hf]; exact Four.get_set_same _ _ _
  unfold storeParam
  simp only [clampParam, paramKind]
  rw [put, hp]
  rfl

theorem storeParam_servoPresetL (p : Params) (j : Fin 4) (v : BitVec 32) {formed preset : Int}
    (hf : formed = p.servoPreset.get j / 4294967296 * 4294967296 + v.toNat)
    (hp : preset = clampTo (-140737488355327) 140737488355327 formed) :
    storeParam p (.servoPresetL j) v.toNat =
      ({ p with servoPreset := p.servoPreset.set j preset }, preset != formed) := by
  have within : clampTo 0 4294967295 (v.toNat : Int) = v.toNat := clampTo_eq_self (by have := v.isLt; omega)
  have put : (putParam p (.servoPresetL j) (v.toNat : Int)).servoPreset.get j = formed := by
    rw [hf]; exact Four.get_set_same _ _ _
  unfold storeParam
  simp only [clampParam, paramKind]
  rw [within, put, hp, bne_self_eq_false, Bool.false_or]
  rfl

/-- Settles O34: the half written joins the half as stored, and the preset formed is clamped. -/
theorem presetHalvesFormAPreset : Obligations.PresetHalvesFormAPreset := by
  rintro s axis value j waits rfl
  refine ⟨fun high formed preset hh hf hp => ?_, fun formed preset hf hp => ?_⟩
  · subst hh
    refine (setParam_taken waits (q := .servoPresetH (indexOf axis)) rfl (.inr rfl) rfl
      (storeParam_servoPresetH s.params (indexOf axis) value.toInt hf hp)).trans ?_
    rw [status_of_adjusted]
    simp only [getParam, Four.get_set_same]
    rfl
  · refine (setParam_taken waits (q := .servoPresetL (indexOf axis)) rfl (.inr rfl) rfl
      (storeParam_servoPresetL s.params (indexOf axis) value hf hp)).trans ?_
    rw [status_of_stored]
    simp only [getParam, Four.get_set_same]
    rfl

/-! ## Weights -/

theorem forgetSums_get (which : Fin 4 → Bool) (m : Motion) (j : Fin 4) :
    (forgetSums which m).axes.get j =
      if which j then { m.axes.get j with prevSum := none } else m.axes.get j := Four.get_mapIdx ..

theorem forgetSums_only (j : Fin 4) (m : Motion) :
    forgetSums (fun k => k == j) m = { m with axes := m.axes.set j { m.axes.get j with prevSum := none } } := by
  have axes : (forgetSums (fun k => k == j) m).axes = m.axes.set j { m.axes.get j with prevSum := none } := by
    refine Four.ext_get fun k => ?_
    rw [forgetSums_get, Four.get_set]
    by_cases same : k = j
    · subst same; simp
    · simp [same]
  exact congrArg (fun axes => { m with axes := axes }) axes

theorem allZero_get (p : Params) (j : Fin 4) : p.allZero j = true ↔ ∀ k, (p.weight.get j).get k = 0 := by
  simp [Params.allZero]

/-- A changed weight by its axis and slot (R68, R95). -/
theorem weightChanged_eq {s : State} {j : Fin 4} {undef : Bool} (h : s.params.allZero j = undef) :
    weightChanged j s =
      raiseIf (undef && (s.slots.get j).state == .armed) .datumFailed
        { s with
          axes := s.axes.set j
            { s.axes.get j with state := if undef then AxisState.undefined else AxisState.unreferenced }
          motion := { s.motion with axes := s.motion.axes.set j { s.motion.axes.get j with prevSum := none } }
          slots :=
            if undef && (s.slots.get j).state == .armed then s.slots.set j ((s.slots.get j).finish .axisUndefined)
            else s.slots } := by
  unfold weightChanged
  simp only [h, forgetSums_only]

/-- Settles O30: the refusals of a weight write, and `weightChanged` where the weight is another. -/
theorem weightWritesRedefineTheAxis : Obligations.WeightWritesRedefineTheAxis := by
  rintro s axis channel value j c v st waits rfl rfl rfl rfl
  refine ⟨fun isOpen => ?_, fun closed nonzero tracker => ?_, fun closed agree => ?_⟩
  · exact setParam_scanOpen (q := .weight (indexOf axis) (indexOf channel)) waits rfl rfl isOpen
  · refine setParam_conflict (q := .weight (indexOf axis) (indexOf channel)) waits rfl (.inl closed) ?_
    exact Bool.and_eq_true_iff.mpr ⟨bne_iff_ne.mpr nonzero, by rw [tracker]; exact beq_self_eq_true _⟩
  · have free : paramConflict s.params (.weight (indexOf axis) (indexOf channel)) value.toInt = false := by
      rw [← Bool.not_eq_true]
      intro conflict
      obtain ⟨nonzero, tracker⟩ := Bool.and_eq_true_iff.mp conflict
      rcases agree with zero | other
      · exact bne_iff_ne.mp nonzero zero
      · exact other (beq_iff_eq.mp tracker)
    have taken := setParam_taken (q := .weight (indexOf axis) (indexOf channel)) waits rfl (.inl closed) free
      (storeParam_weight_self s.params (indexOf axis) (indexOf channel) value.toInt)
    rw [status_of_stored] at taken
    simp only [applyStore, getParam, Four.get_set_same] at taken
    refine ⟨fun same => ?_, ?_⟩
    · refine Eq.trans taken ?_
      rw [← same, if_neg (by simp)]
      simp only [same, Four.set_get_self]
    · rintro changed p undef rfl hundef
      refine Eq.trans taken ?_
      rw [if_pos (bne_iff_ne.mpr changed), weightChanged_eq (Bool.eq_iff_iff.mpr ((allZero_get _ _).trans hundef.symm))]
      rfl

/-! ## λ, K and D -/

theorem unreference_state (which : Fin 4 → Bool) (axes : Four Axis) (j : Fin 4) :
    (unreference which axes).get j =
      if which j = false ∨ (axes.get j).state = .undefined then axes.get j
      else { axes.get j with state := .unreferenced } := by
  rw [unreference_get]
  by_cases stays : which j = false ∨ (axes.get j).state = .undefined
  · rw [if_pos stays, if_neg]
    rcases stays with h | h <;> simp [h]
  · rw [if_neg stays, if_pos]
    simpa [not_or] using stays

/-- A parameter of one channel put as it is held leaves the store as it is. -/
theorem updateChannel_self {p : Params} {c : Fin 4} {f : ChannelParams → ChannelParams}
    (same : f (p.channel.get c) = p.channel.get c) : p.updateChannel c f = p := by
  unfold Params.updateChannel
  rw [same, Four.set_get_self]

theorem weighted_updateChannel (p : Params) (c : Fin 4) (f : ChannelParams → ChannelParams) (j k : Fin 4) :
    weighted (p.updateChannel c f) j k = weighted p j k := rfl

theorem exec_setParamLambda {s : State} (waits : s.Waits) (closed : s.scanIsOpen = false) (value : BitVec 32) {v : Int}
    (hv : v = clampTo 400000000 1100000000 value.toInt) :
    exec (.setParamLambda value) s =
      .next ((applyStore .lambda { s.params with lambda := v } s).answer 0x05 6
        ((if v = value.toInt then 0x00 else 0x01) :: be 4 v)) := by
  subst hv
  refine (setParam_taken (q := .lambda) waits rfl (.inl closed) rfl
    (storeParam_plain s.params (q := .lambda) value.toInt rfl)).trans ?_
  rw [status_of_stored]
  rfl

theorem exec_setParamPathK {s : State} (waits : s.Waits) (closed : s.scanIsOpen = false) (channel : BitVec 2)
    {value : BitVec 32} (valid : value.toInt = 2 ∨ value.toInt = 4 ∨ value.toInt = 8) :
    exec (.setParamPathK channel value) s =
      .next ((applyStore (.pathK (indexOf channel))
        (s.params.updateChannel (indexOf channel) fun q => { q with pathK := value.toInt }) s).answer 0x05 6
        (0x00 :: be 4 value.toInt)) := by
  have code : validCode (.pathK (indexOf channel)) value.toInt = true :=
    (validCode_of_codes (codes := [2, 4, 8]) rfl _).mpr (by simpa using valid)
  have taken := setParam_taken (q := .pathK (indexOf channel)) waits code (.inl closed) rfl
    (storeParam_plain s.params (q := .pathK (indexOf channel)) value.toInt rfl)
  rw [status_of_stored] at taken
  refine Eq.trans taken ?_
  simp only [clampParam, paramKind, putParam, getParam, Params.updateChannel_same, if_true]

theorem exec_setParamDeadPath {s : State} (waits : s.Waits) (closed : s.scanIsOpen = false) (channel : BitVec 2)
    (value : BitVec 32) {v : Int} (hv : v = clampTo 0 2000000 value.toInt) :
    exec (.setParamDeadPath channel value) s =
      .next ((applyStore (.deadPath (indexOf channel))
        (s.params.updateChannel (indexOf channel) fun q => { q with deadPath := v }) s).answer 0x05 6
        ((if v = value.toInt then 0x00 else 0x01) :: be 4 v)) := by
  subst hv
  have taken := setParam_taken (q := .deadPath (indexOf channel)) waits rfl (.inl closed) rfl
    (storeParam_plain s.params (q := .deadPath (indexOf channel)) value.toInt rfl)
  rw [status_of_stored] at taken
  refine Eq.trans taken ?_
  simp only [clampParam, paramKind, putParam, getParam, Params.updateChannel_same]
  rfl

/-- Settles O31: refused, held already, or changed, for λ, K and D in turn. -/
theorem opticsWritesUnreferenceAxes : Obligations.OpticsWritesUnreferenceAxes := by
  refine ⟨fun s value v waits hv => ⟨fun isOpen => ?_, fun closed same => ?_, fun closed changed => ?_⟩, ?_, ?_⟩
  · exact setParam_scanOpen (q := .lambda) waits rfl rfl isOpen
  · rw [exec_setParamLambda waits closed value hv, applyStore]
    simp only [same]
    rw [if_neg (by simp)]
  · refine ⟨lambdaChanged { s with params := { s.params with lambda := v } }, ?_, rfl, fun j => ?_, fun j => ?_⟩
    · rw [exec_setParamLambda waits closed value hv, applyStore]
      exact congrArg (fun t : State => Host.Outcome.next (t.answer 0x05 6 _)) (if_pos (bne_iff_ne.mpr changed))
    · refine (unreference_state _ _ j).trans ?_
      simp
    · exact forgetSums_get _ _ j
  · rintro s channel value c waits rfl
    refine ⟨fun invalid => ?_, fun valid => ⟨fun isOpen => ?_, fun closed same => ?_, fun closed changed => ?_⟩⟩
    · refine setParam_invalid (q := .pathK (indexOf channel)) waits ?_
      rw [← Bool.not_eq_true, validCode_of_codes (codes := [2, 4, 8]) rfl]
      simpa [paramField] using invalid
    · refine setParam_scanOpen (q := .pathK (indexOf channel)) waits ?_ rfl isOpen
      exact (validCode_of_codes (codes := [2, 4, 8]) rfl _).mpr (by simpa [paramField] using valid)
    · rw [exec_setParamPathK waits closed channel valid, applyStore, updateChannel_self (by rw [same])]
      rw [if_neg (by simp)]
    · refine ⟨pathKChanged (indexOf channel)
        { s with params := s.params.updateChannel (indexOf channel) fun q => { q with pathK := value.toInt } }, ?_, rfl,
        fun j => ?_, fun j => ?_⟩
      · rw [exec_setParamPathK waits closed channel valid, applyStore]
        refine congrArg (fun t : State => Host.Outcome.next (t.answer 0x05 6 _)) (if_pos (bne_iff_ne.mpr ?_))
        simpa [getParam] using changed
      · exact unreference_state _ _ j
      · exact forgetSums_get _ _ j
  · rintro s channel value c v waits rfl hv
    refine ⟨fun isOpen => ?_, fun closed same => ?_, fun closed changed => ?_⟩
    · exact setParam_scanOpen (q := .deadPath (indexOf channel)) waits rfl rfl isOpen
    · rw [exec_setParamDeadPath waits closed channel value hv, applyStore, updateChannel_self (by rw [same])]
      rw [if_neg (by simp)]
    · refine ⟨deadPathChanged (indexOf channel)
        { s with params := s.params.updateChannel (indexOf channel) fun q => { q with deadPath := v } }, ?_, rfl,
        fun j => ?_⟩
      · rw [exec_setParamDeadPath waits closed channel value hv, applyStore]
        refine congrArg (fun t : State => Host.Outcome.next (t.answer 0x05 6 _)) (if_pos (bne_iff_ne.mpr ?_))
        simpa [getParam] using changed
      · exact unreference_state _ _ j

/-! ## TRACKER_CH and LOCK_OVERRIDE -/

theorem validCode_trackerCh (v : Int) : validCode .trackerCh v = true ↔ v = 255 ∨ (0 ≤ v ∧ v ≤ 3) := by
  rw [validCode_of_codes (codes := [0, 1, 2, 3, 255]) rfl]
  simp only [List.mem_cons, List.not_mem_nil, or_false]
  omega

theorem memberOfValue_member (c : Fin 4) : memberOfValue (c : Nat) = some c := by revert c; decide

/-- A taken write of TRACKER_CH stores the member that the value names, and nothing else changes until a gate end (R44). -/
theorem exec_setParamTrackerCh {s : State} (waits : s.Waits) {value : BitVec 32} (closed : s.scanIsOpen = false)
    (valid : value.toInt = 255 ∨ (0 ≤ value.toInt ∧ value.toInt ≤ 3))
    (agree : paramConflict s.params .trackerCh value.toInt = false) :
    exec (.setParamTrackerCh value) s =
      .next (({ s with params := { s.params with trackerCh := memberOfValue value.toInt } }).answer 0x05 6
        (0x00 :: be 4 value.toInt)) := by
  have code := (validCode_trackerCh value.toInt).mpr valid
  have taken := setParam_taken (q := .trackerCh) waits code (.inl closed) agree
    (storeParam_plain s.params (q := .trackerCh) value.toInt rfl)
  rw [getParam_putParam_same _ (clampParam_holds code), status_of_stored] at taken
  exact Eq.trans taken (congrArg (fun b => Host.Outcome.next (State.answer _ _ _ (b :: _))) (if_pos rfl))

theorem validCode_lockOverride (v : Int) : validCode .lockOverride v = true ↔ v = 0 ∨ v = 1 := by
  rw [validCode_of_codes (codes := [0, 1]) rfl]
  simp

/-- A valid write of LOCK_OVERRIDE is taken in every scan state, and notices an effective state that leaves LOCKED (R31). -/
theorem exec_setParamLockOverride {s : State} (waits : s.Waits) {value : BitVec 32} {o : Bool}
    (hv : value.toInt = if o then 1 else 0) :
    exec (.setParamLockOverride value) s =
      .next ((applyStore .lockOverride { s.params with lockOverride := o } s).answer 0x05 6 (0x00 :: be 4 value.toInt)) := by
  have code : validCode .lockOverride value.toInt = true := by
    rw [validCode_lockOverride, hv]
    cases o
    · exact .inl rfl
    · exact .inr rfl
  have stored : putParam s.params .lockOverride (clampParam .lockOverride value.toInt) = { s.params with lockOverride := o } := by
    rw [hv]
    cases o <;> rfl
  have taken := setParam_taken (q := .lockOverride) waits code (.inr rfl) rfl
    (storeParam_plain s.params (q := .lockOverride) value.toInt rfl)
  rw [getParam_putParam_same _ (clampParam_holds code), status_of_stored, stored] at taken
  exact Eq.trans taken (congrArg (fun b => Host.Outcome.next (State.answer _ _ _ (b :: _))) (if_pos rfl))

/-- An override taken away from a monitor that is not LOCKED takes the effective state out of LOCKED (R31). -/
theorem overrideLeavesLock_iff (s : State) (o : Bool) :
    (s.effectiveLock = .locked ∧
        ({ s with params := { s.params with lockOverride := o } } : State).effectiveLock ≠ .locked) ↔
      o = false ∧ s.params.lockOverride = true ∧ s.lock.state ≠ .locked := by
  cases override : s.params.lockOverride <;> cases o <;> simp [State.effectiveLock, override]

theorem applyStore_lockOverride_leaves {s : State} {o : Bool} (off : o = false) (on : s.params.lockOverride = true)
    (unlocked : s.lock.state ≠ .locked) :
    applyStore .lockOverride { s.params with lockOverride := o } s =
      endScan .laserUnlock { s with params := { s.params with lockOverride := o } } :=
  if_pos ((overrideLeavesLock_iff s o).mpr ⟨off, on, unlocked⟩)

/-- Settles O32: TRACKER_CH by its tests, and LOCK_OVERRIDE by whether the effective state leaves LOCKED. -/
theorem trackerAndOverrideWrites : Obligations.TrackerAndOverrideWrites := by
  refine ⟨fun s value waits => ⟨fun invalid => ?_, fun valid isOpen => ?_, fun none closed => ?_,
    fun c member closed => ⟨fun conflict => ?_, fun agree => ?_⟩⟩, fun s value o waits => ⟨fun zero one => ?_,
    fun hv => ⟨fun kept => ?_, ?_⟩⟩⟩
  · exact setParam_invalid (q := .trackerCh) waits (Bool.eq_false_iff.mpr (invalid ∘ (validCode_trackerCh _).mp))
  · exact setParam_scanOpen (q := .trackerCh) waits ((validCode_trackerCh _).mpr valid) rfl isOpen
  · rw [exec_setParamTrackerCh waits closed (.inl none) (by rw [none]; rfl), none]
    rfl
  · have named : memberOfValue value.toInt = some c := by rw [member]; exact memberOfValue_member c
    have range : 0 ≤ value.toInt ∧ value.toInt ≤ 3 := by omega
    refine setParam_conflict (q := .trackerCh) waits ((validCode_trackerCh _).mpr (.inr range)) (.inl closed) ?_
    show paramConflict s.params .trackerCh value.toInt = true
    rw [paramConflict, named]
    exact (any_indices _).mpr conflict
  · have named : memberOfValue value.toInt = some c := by rw [member]; exact memberOfValue_member c
    rw [exec_setParamTrackerCh waits closed (.inr (by omega)) ?_, named]
    rw [paramConflict, named]
    simpa using agree
  · refine setParam_invalid (q := .lockOverride) waits (Bool.eq_false_iff.mpr fun valid => ?_)
    exact ((validCode_lockOverride _).mp valid).elim zero one
  · rw [exec_setParamLockOverride waits hv]
    refine congrArg (fun t : State => Host.Outcome.next (t.answer 0x05 6 _)) ?_
    by_cases leaves : o = false ∧ s.params.lockOverride = true ∧ s.lock.state ≠ .locked
    · obtain ⟨off, on, unlocked⟩ := leaves
      rw [applyStore_lockOverride_leaves off on unlocked]
      refine endScan_none (((kept.resolve_left ?_).resolve_left unlocked).resolve_left ?_)
      · rw [off]; decide
      · rw [on]; decide
    · exact if_neg (leaves ∘ (overrideLeavesLock_iff s o).mp)
  · rintro off unlocked on d isOpen
    have still : ({ s with params := { s.params with lockOverride := false } } : State).openScan = some d := isOpen
    have scan := endScan_scan (cause := .laserUnlock) still
    refine ⟨endScan .laserUnlock { s with params := { s.params with lockOverride := false } }, ?_, rfl, by simp, by simp,
      ?_, ?_, ?_, endScan_scanEnded still, by simp, by simp, by simp, by simp⟩
    · rw [exec_setParamLockOverride waits hv, applyStore_lockOverride_leaves off on unlocked, off]
    · rw [scan]; rfl
    · rw [scan]
    · rw [scan]; exact State.descriptor_of_openScan isOpen

end Sys2Proof.Machine
end

section
/-! PROOFS. Positions and datum requests: READ AXIS (R51 to R56, R65), DATUM ARM and DATUM CANCEL on both links (R75 to
R79). -/

namespace Sys2Proof.Machine

/-! ## READ AXIS -/

theorem channelDisplacement_isRounded {s : State} {c : Fin 4} (factor : 0 < (s.params.channel.get c).pathK)
    (inUse : 0 ≤ s.refr.nInUse) :
    IsRounded ((s.channels.get c).count * s.params.lambda * 10 ^ 7)
      (1024 * (s.params.channel.get c).pathK * (10 ^ 10 + s.refr.nInUse)) (channelDisplacement s c) :=
  roundDiv_isRounded (Int.mul_pos (Int.mul_pos (by decide) factor) (by omega)) _

theorem deadPathCorrection_isRounded {s : State} {j : Fin 4} (c : Fin 4) (inUse : 0 ≤ s.refr.nInUse)
    (referenced : (s.axes.get j).state = .referenced ∨ (s.axes.get j).state = .broken) :
    IsRounded ((s.params.channel.get c).deadPath * (s.refr.nInUse - (s.axes.get j).nDat) * 10 ^ 6)
      (10 ^ 10 + s.refr.nInUse) (deadPathCorrection s j c) := by
  have term := roundDiv_isRounded (show 0 < 10 ^ 10 + s.refr.nInUse by omega)
    ((s.params.channel.get c).deadPath * (s.refr.nInUse - (s.axes.get j).nDat) * 10 ^ 6)
  unfold deadPathCorrection
  rcases referenced with h | h <;> rw [h] <;> exact term

theorem deadPathCorrection_unreferenced {s : State} {j : Fin 4} (c : Fin 4) (h : (s.axes.get j).state = .unreferenced) :
    deadPathCorrection s j c = 0 := by
  rw [deadPathCorrection, h]

theorem rawValue_undefined {s : State} {j : Fin 4} (h : (s.axes.get j).state = .undefined) : rawValue s j = 0 := if_pos h

theorem exactValue_undefined {s : State} {j : Fin 4} (h : (s.axes.get j).state = .undefined) : exactValue s j = 0 := if_pos h

theorem rawValue_defined {s : State} {j : Fin 4} (h : (s.axes.get j).state ≠ .undefined) :
    rawValue s j = roundDiv (weightedSum s.params j fun c => channelDisplacement s c - deadPathCorrection s j c) 65536 :=
  if_neg h

theorem exactValue_defined {s : State} {j : Fin 4} (h : (s.axes.get j).state ≠ .undefined) :
    exactValue s j = rawValue s j + (s.axes.get j).offset := if_neg h

theorem axisBytes_eq (s : State) (j : Fin 4) :
    axisBytes s j =
      be 1 (s.axes.get j).state.number ++ be 2 (s.axes.get j).epoch ++ be 8 (axisValue s j)
        ++ [if axisValue s j = exactValue s j then 0x00 else 0x01] ++ be 8 (rawValue s j) ++ be 4 s.refr.nInUse := by
  have clamped : beBool (axisClamped s j) = [if axisValue s j = exactValue s j then 0x00 else 0x01] := by
    unfold beBool axisClamped
    by_cases same : axisValue s j = exactValue s j
    · rw [if_pos same, if_neg (by simpa using same)]
    · rw [if_neg same, if_pos (bne_iff_ne.mpr same)]
  rw [axisBytes, beNat, axisState_code_eq_number, clamped]
  rfl

/-- Settles O35: the chain of chapter 3 is that of `rawValue` and `exactValue`. -/
theorem readAxisReportsThePosition : Obligations.ReadAxisReportsThePosition := by
  refine fun s b waits => ⟨fun none => ?_, fun j named => ⟨channelDisplacement s, deadPathCorrection s j, rawValue s j,
    exactValue s j, axisValue s j, fun factors inUse c => ?_, fun undefined => ?_, fun defined => ?_, rfl, ?_⟩⟩
  · show execReadAxis b s = _
    rw [execReadAxis, answered (r := .keep s .badArgument (zeros 24)) waits (by rw [memberOf_none none])]
    rfl
  · exact ⟨channelDisplacement_isRounded (factors c) inUse, deadPathCorrection_isRounded c inUse,
      deadPathCorrection_unreferenced c⟩
  · exact ⟨rawValue_undefined undefined, exactValue_undefined undefined⟩
  · rw [rawValue_defined defined]
    exact ⟨roundDiv_isRounded (by decide) _, (exactValue_defined defined).trans (by rw [rawValue_defined defined])⟩
  · show execReadAxis b s = _
    rw [execReadAxis, answered (r := .keep s .ok (axisBytes s j)) waits (by rw [memberOf_of_toNat named]), axisBytes_eq]
    rfl

/-! ## Datum requests -/

section

variable {s : State} {j : Fin 4} {owner : Owner}

theorem decideRequest_undefined (h : (s.axes.get j).state = .undefined) : decideRequest s j owner = .axisUndefined := if_pos h

theorem decideRequest_notTracking (defined : (s.axes.get j).state ≠ .undefined) (h : s.allTracking j = false) :
    decideRequest s j owner = .notTracking :=
  (if_neg defined).trans (if_pos (by rw [h]; rfl))

theorem decideRequest_busy (defined : (s.axes.get j).state ≠ .undefined) (tracking : s.allTracking j = true)
    (busy : (s.slots.get j).state ≠ .idle) (other : (s.slots.get j).owner ≠ some owner) :
    decideRequest s j owner = .datumBusy := by
  rw [decideRequest, if_neg defined, tracking, if_neg (by decide), if_pos]
  exact Bool.and_eq_true_iff.mpr ⟨bne_iff_ne.mpr busy, bne_iff_ne.mpr other⟩

theorem decideRequest_taken (defined : (s.axes.get j).state ≠ .undefined) (tracking : s.allTracking j = true)
    (free : (s.slots.get j).state = .idle ∨ (s.slots.get j).owner = some owner) :
    decideRequest s j owner = if s.scanOpenOn j then .deferred else .armed := by
  rw [decideRequest, if_neg defined, tracking, if_neg (by decide), if_neg]
  rcases free with h | h <;> simp [h]

/-- A request that is refused changes nothing (R75). -/
theorem requestDatum_refused {decision : RequestDecision} (h : decideRequest s j owner = decision) (armed : decision ≠ .armed)
    (deferred : decision ≠ .deferred) (source : DatumSource) (edge : Edge) (preset : Int) (timeout : Nat) :
    requestDatum s j owner source edge preset timeout = (s, decision) := by
  subst h
  unfold requestDatum
  dsimp only
  split
  next h => exact absurd h armed
  next h => exact absurd h deferred
  next => rfl

/-- A request that is taken fills its slot (R75, R76). -/
theorem requestDatum_taken (defined : (s.axes.get j).state ≠ .undefined) (tracking : s.allTracking j = true)
    (free : (s.slots.get j).state = .idle ∨ (s.slots.get j).owner = some owner) (source : DatumSource) (edge : Edge)
    (preset : Int) (timeout : Nat) :
    requestDatum s j owner source edge preset timeout =
      ({ s with
        slots := s.slots.set j
          { state := if s.scanOpenOn j then SlotState.deferred else SlotState.armed, owner := some owner, source := source
            edge := edge, preset := preset, timeout := timeout, age := 0, outcome := (s.slots.get j).outcome } },
        if s.scanOpenOn j then .deferred else .armed) := by
  unfold requestDatum
  simp only
  rw [decideRequest_taken defined tracking free]
  cases s.scanOpenOn j <;> rfl

end

theorem datumSourceOf_of_number {b : Byte} {source : DatumSource} (h : (b.toNat : Int) = source.number) :
    datumSourceOf b = some source := by
  have named : ∀ code : Byte, source.number = code.toNat → b = code := fun code hc =>
    BitVec.eq_of_toNat_eq (Int.ofNat_inj.mp (h.trans hc))
  cases source
  case ref0 => rw [named 0 rfl]; rfl
  case ref1 => rw [named 1 rfl]; rfl
  case immediate => rw [named 2 rfl]; rfl

theorem datumSourceOf_none {b : Byte} (h : 3 ≤ b.toNat) : datumSourceOf b = none := by
  unfold datumSourceOf
  rw [if_neg, if_neg, if_neg]
  all_goals rintro rfl; exact absurd h (by decide)

theorem edgeOf_of_number {b : Byte} {edge : Edge} (h : b.toNat = edgeNumber edge) : edgeOf b = some edge := by
  have named : ∀ code : Byte, edgeNumber edge = code.toNat → b = code := fun code hc =>
    BitVec.eq_of_toNat_eq (Int.ofNat_inj.mp (h.trans hc))
  cases edge
  case rising => rw [named 0 rfl]; rfl
  case falling => rw [named 1 rfl]; rfl

theorem edgeOf_none {b : Byte} (h : 2 ≤ b.toNat) : edgeOf b = none := by
  unfold edgeOf
  rw [if_neg, if_neg]
  all_goals rintro rfl; exact absurd h (by decide)

/-- DATUM ARM with valid arguments is a request of the measurement link (R77). -/
theorem exec_datumArm {s : State} {a src e : Byte} {j : Fin 4} {source : DatumSource} {edge : Edge} {preset : BitVec 64}
    (waits : s.Waits) (axis : a.toNat = j) (hsource : src.toNat = source.number) (hedge : e.toNat = edgeNumber edge)
    (range : -140737488355327 ≤ preset.toInt ∧ preset.toInt ≤ 140737488355327) (timeout : BitVec 16)
    {r : State × RequestDecision} (request : requestDatum s j .measurement source edge preset.toInt timeout.toNat = r) :
    exec (.datumArm a src e preset timeout) s = .next (r.1.answer 0x20 13 [r.2.status.code]) := by
  subst request
  show execDatumArm a src e preset timeout s = _
  refine answered (r := { state := _, status := _, data := [] }) waits ?_
  simp only [memberOf_of_toNat axis, datumSourceOf_of_number hsource, edgeOf_of_number hedge]
  exact if_pos (decide_eq_true range)

/-- The request byte's fields (R186). -/
theorem requestAxis_eq {b : Byte} {j : Fin 4} (h : b.toNat / 16 % 4 = j) : requestAxis b = j := by
  refine Fin.ext ?_
  show (b.extractLsb' 4 2).toNat = j
  rw [BitVec.extractLsb'_toNat, Nat.shiftRight_eq_div_pow]
  exact h

theorem requestRef_eq (b : Byte) :
    sourceOfRef (requestRef b) = if b.toNat / 8 % 2 = 1 then DatumSource.ref1 else DatumSource.ref0 := by
  have bit : b.getLsbD 3 = decide (b.toNat / 8 % 2 = 1) := Nat.testBit_eq_decide_div_mod_eq
  rw [requestRef, bit]
  by_cases h : b.toNat / 8 % 2 = 1 <;> simp [h, sourceOfRef]

theorem exec_servoRequest {s : State} {b : Byte} (request : s.sv.request = some b) {code : Nat}
    (hcode : b.toNat / 64 = code) : takeRequestOf code s = takeRequestByte b s := by
  have due : s.sv.request.map requestCode = some code := by
    rw [request]
    exact congrArg some hcode
  rw [takeRequestOf, if_pos due, takeRequest, request]

theorem exec_servoDatumArm {s : State} {b : Byte} {j : Fin 4} (high : s.resetLow = false)
    (request : s.sv.request = some b) (code : b.toNat / 64 = 1) (axis : b.toNat / 16 % 4 = j)
    {r : State × RequestDecision}
    (taken : requestDatum s j .servo (if b.toNat / 8 % 2 = 1 then DatumSource.ref1 else DatumSource.ref0) .rising
      (s.params.servoPreset.get j) 0 = r) :
    exec .servoDatumArm s = .next { r.1 with sv := { r.1.sv with result := r.2.result, request := none } } := by
  subst taken
  show live s (takeRequestOf 1) = _
  rw [live_of_high high, exec_servoRequest request code, takeRequestByte, requestCode, code]
  show Host.Outcome.next (servoArm (requestAxis b) (requestRef b) s) = _
  rw [requestAxis_eq axis, servoArm, requestRef_eq]
  rfl

/-- Settles O36: the decision of a request, by its tests in order, on either link. -/
theorem datumRequestsFillTheirSlot : Obligations.DatumRequestsFillTheirSlot := by
  refine ⟨fun s a src e preset timeout waits bad => ?_, ?_, fun s b j high request code axis => ?_⟩
  · show execDatumArm a src e preset timeout s = _
    refine answered (r := .keep s .badArgument) waits ?_
    dsimp only
    split
    next j source edge hj hsource hedge =>
      refine if_neg fun range => ?_
      have range : -140737488355327 ≤ preset.toInt ∧ preset.toInt ≤ 140737488355327 := of_decide_eq_true range
      rcases bad with h | h | h | h | h
      · rw [memberOf_none h] at hj; cases hj
      · rw [datumSourceOf_none h] at hsource; cases hsource
      · rw [edgeOf_none h] at hedge; cases hedge
      · omega
      · omega
    next => rfl
  · intro s a source edge preset timeout j src e waits axis hsource hedge low high
    have run := fun {r} => exec_datumArm (r := r) waits axis hsource hedge ⟨low, high⟩ timeout
    refine ⟨fun undefined => ?_, fun defined lost => ?_, fun defined tracking busy other => ?_,
      fun defined tracking free => ?_⟩
    · exact run (requestDatum_refused (decideRequest_undefined undefined) nofun nofun _ _ _ _)
    · exact run (requestDatum_refused (decideRequest_notTracking defined lost) nofun nofun _ _ _ _)
    · exact run (requestDatum_refused (decideRequest_busy defined tracking busy other) nofun nofun _ _ _ _)
    · rw [run (requestDatum_taken defined tracking free _ _ _ _)]
      cases s.scanOpenOn j <;> rfl
  · have run := fun {r} => exec_servoDatumArm (r := r) high request code axis
    refine ⟨fun undefined => ?_, fun defined lost => ?_, fun defined tracking busy other => ?_,
      fun defined tracking free => ?_⟩
    · exact run (requestDatum_refused (decideRequest_undefined undefined) nofun nofun _ _ _ _)
    · exact run (requestDatum_refused (decideRequest_notTracking defined lost) nofun nofun _ _ _ _)
    · exact run (requestDatum_refused (decideRequest_busy defined tracking busy other) nofun nofun _ _ _ _)
    · rw [run (requestDatum_taken defined tracking free _ _ _ _)]
      cases s.scanOpenOn j <;> rfl

/-! ## Cancels -/

theorem cancelDatum_idle {s : State} {j : Fin 4} (idle : (s.slots.get j).state = .idle) (owner : Owner) :
    cancelDatum s j owner = (s, true) := if_pos idle

theorem cancelDatum_own {s : State} {j : Fin 4} {owner : Owner} (busy : (s.slots.get j).state ≠ .idle)
    (own : (s.slots.get j).owner = some owner) :
    cancelDatum s j owner =
      ({ s with
        slots := s.slots.set j
          { s.slots.get j with state := SlotState.idle, owner := none, outcome := DatumOutcome.cancelled } }, true) :=
  (if_neg busy).trans (if_pos own)

theorem cancelDatum_other {s : State} {j : Fin 4} {owner : Owner} (busy : (s.slots.get j).state ≠ .idle)
    (other : (s.slots.get j).owner ≠ some owner) : cancelDatum s j owner = (s, false) :=
  (if_neg busy).trans (if_neg other)

theorem exec_datumCancel {s : State} {b : Byte} {j : Fin 4} (waits : s.Waits) (axis : b.toNat = j) {r : State × Bool}
    (cancel : cancelDatum s j .measurement = r) :
    exec (.datumCancel b) s = .next (r.1.answer 0x21 1 [if r.2 then 0x00 else 0x1D]) := by
  subst cancel
  show execDatumCancel b s = _
  rw [execDatumCancel, answered (r := { state := (cancelDatum s j .measurement).1, status := _, data := [] }) waits
    (by rw [memberOf_of_toNat axis])]
  cases (cancelDatum s j .measurement).2 <;> rfl

theorem exec_servoDatumCancel {s : State} {b : Byte} {j : Fin 4} (high : s.resetLow = false)
    (request : s.sv.request = some b) (code : b.toNat / 64 = 2) (axis : b.toNat / 16 % 4 = j) {r : State × Bool}
    (cancel : cancelDatum s j .servo = r) :
    exec .servoDatumCancel s =
      .next { r.1 with sv := { r.1.sv with result := if r.2 then .accepted else .notOwner, request := none } } := by
  subst cancel
  show live s (takeRequestOf 2) = _
  rw [live_of_high high, exec_servoRequest request code, takeRequestByte, requestCode, code]
  show Host.Outcome.next (servoCancel (requestAxis b) s) = _
  rw [requestAxis_eq axis]
  rfl

/-- Settles O37: a cancel by the state and the owner of the slot, on either link. -/
theorem datumCancelsEndOwnRequests : Obligations.DatumCancelsEndOwnRequests := by
  refine ⟨fun s b waits none => ?_, fun s b j waits axis => ⟨fun idle => ?_, fun busy own => ?_, fun busy other => ?_⟩,
    fun s b f high frame => ?_, fun s high none => ?_,
    fun s b j high request code axis => ⟨fun idle => ?_, fun busy own => ?_, fun busy other => ?_⟩⟩
  · show execDatumCancel b s = _
    rw [execDatumCancel, answered (r := .keep s .badArgument) waits (by rw [memberOf_none none])]
    rfl
  · exact exec_datumCancel waits axis (cancelDatum_idle idle _)
  · exact exec_datumCancel waits axis (cancelDatum_own busy own)
  · exact exec_datumCancel waits axis (cancelDatum_other busy other)
  · refine ⟨_, live_of_high high _, ?_⟩
    rw [completeFrame, frame]
  · refine ⟨_, frameNow s, live_of_high high _, ?_, rfl⟩
    rw [sync, takeRequest, none]
    rfl
  · exact exec_servoDatumCancel high request code axis (cancelDatum_idle idle _)
  · exact exec_servoDatumCancel high request code axis (cancelDatum_own busy own)
  · exact exec_servoDatumCancel high request code axis (cancelDatum_other busy other)

end Sys2Proof.Machine
end

section
/-! PROOFS. Datums: reference marks and the gate reports of the Datum Controller (R72, R81 to R86, R107). -/

namespace Sys2Proof.Machine

/-! ## What an event's datums do -/

/-- The part once the datums of an event have taken effect or failed, before their captures. -/
def datumsMoved (chosen : Fin 4 → Bool) (s : State) : State :=
  raiseIf (indices.any fun j => chosen j && !s.allTracking j) .datumFailed
    (raiseIf (indices.any fun j => chosen j && s.allTracking j) .datumDone
      { s with
        axes := s.axes.mapIdx fun j a =>
          if chosen j && s.allTracking j then referenceAxis s j (s.slots.get j).preset else a
        slots := s.slots.mapIdx fun j d =>
          if chosen j && s.allTracking j then d.finish .done
          else if chosen j && !s.allTracking j then d.finish .notTracking else d })

theorem applyDatums_eq (chosen : Fin 4 → Bool) (s : State) :
    applyDatums chosen s =
      datumCaptures (datumsMoved chosen s) (indices.filter fun j => chosen j && s.allTracking j) := rfl

theorem any_done (p : Fin 4 → Bool) (f : Flag) :
    (if indices.any p then f.set else 0) = if ∃ j, p j = true then f.set else 0 := by
  simp only [any_indices]

theorem datumsMoved_frame (chosen : Fin 4 → Bool) (s : State) :
    datumsMoved chosen s =
      { s with
        axes := (datumsMoved chosen s).axes, slots := (datumsMoved chosen s).slots
        events := { s.events with
          pending := s.events.pending ||| (if ∃ j, chosen j = true ∧ s.allTracking j = true then 32 else 0)
            ||| (if ∃ j, chosen j = true ∧ s.allTracking j = false then 64 else 0) } } := by
  unfold datumsMoved
  rw [raiseIf_eq, raiseIf_eq, any_done, any_done]
  simp only [Bool.and_eq_true, Bool.not_eq_true']
  rfl

section

variable {chosen : Fin 4 → Bool} {s : State} {j : Fin 4}

theorem datumsMoved_axes_get (chosen : Fin 4 → Bool) (s : State) (j : Fin 4) :
    (datumsMoved chosen s).axes.get j =
      if chosen j && s.allTracking j then referenceAxis s j (s.slots.get j).preset else s.axes.get j := by
  simp [datumsMoved]

theorem datumsMoved_slots_get (chosen : Fin 4 → Bool) (s : State) (j : Fin 4) :
    (datumsMoved chosen s).slots.get j =
      if chosen j && s.allTracking j then (s.slots.get j).finish .done
      else if chosen j && !s.allTracking j then (s.slots.get j).finish .notTracking else s.slots.get j := by
  simp [datumsMoved]

theorem datumsMoved_done (hc : chosen j = true) (tracking : s.allTracking j = true) :
    (datumsMoved chosen s).axes.get j = referenceAxis s j (s.slots.get j).preset ∧
      (datumsMoved chosen s).slots.get j = (s.slots.get j).finish .done := by
  rw [datumsMoved_axes_get, datumsMoved_slots_get, hc, tracking]
  exact ⟨rfl, rfl⟩

theorem datumsMoved_failed (hc : chosen j = true) (lost : s.allTracking j = false) :
    (datumsMoved chosen s).axes.get j = s.axes.get j ∧
      (datumsMoved chosen s).slots.get j = (s.slots.get j).finish .notTracking := by
  rw [datumsMoved_axes_get, datumsMoved_slots_get, hc, lost]
  exact ⟨rfl, rfl⟩

theorem datumsMoved_other (hc : chosen j = false) :
    (datumsMoved chosen s).axes.get j = s.axes.get j ∧ (datumsMoved chosen s).slots.get j = s.slots.get j := by
  rw [datumsMoved_axes_get, datumsMoved_slots_get, hc]
  exact ⟨rfl, rfl⟩

/-- A datum's end keeps the source of its slot (R88). -/
theorem datumsMoved_source (chosen : Fin 4 → Bool) (s : State) (j : Fin 4) :
    ((datumsMoved chosen s).slots.get j).source = (s.slots.get j).source := by
  rw [datumsMoved_slots_get]
  split
  · rfl
  · split <;> rfl

theorem applyDatums_axes (chosen : Fin 4 → Bool) (s : State) :
    (applyDatums chosen s).axes = (datumsMoved chosen s).axes := by
  rw [applyDatums_eq, datumCaptures_frame]

theorem applyDatums_slots (chosen : Fin 4 → Bool) (s : State) :
    (applyDatums chosen s).slots = (datumsMoved chosen s).slots := by
  rw [applyDatums_eq, datumCaptures_frame]

theorem applyDatums_grows (chosen : Fin 4 → Bool) (s : State) :
    FlagsGrow (datumsMoved chosen s) (applyDatums chosen s) := (datumCaptures_raises _ _).grow

theorem applyDatums_datumDone (hc : chosen j = true) (tracking : s.allTracking j = true) :
    (applyDatums chosen s).flagPending .datumDone = true := by
  refine applyDatums_grows chosen s _ (flagsGrow_raiseIf _ _ _ _ ?_)
  rw [(any_indices _).mpr ⟨j, Bool.and_eq_true_iff.mpr ⟨hc, tracking⟩⟩]
  exact flagPending_raise_self _ _

theorem applyDatums_datumFailed (hc : chosen j = true) (lost : s.allTracking j = false) :
    (applyDatums chosen s).flagPending .datumFailed = true := by
  refine applyDatums_grows chosen s _ ?_
  rw [datumsMoved, (any_indices _).mpr ⟨j, Bool.and_eq_true_iff.mpr ⟨hc, by rw [lost]; rfl⟩⟩]
  exact flagPending_raise_self _ _

end

/-- The datums of one event, as `DatumsApplied` states them. -/
theorem applyDatums_applied (chosen : Fin 4 → Bool) (s : State) : DatumsApplied chosen s (applyDatums chosen s) := by
  refine ⟨datumsMoved chosen s, datumsMoved_frame chosen s,
    fun j => ⟨fun hc tracking => datumsMoved_done hc tracking, datumsMoved_failed, datumsMoved_other⟩, ?_⟩
  have accepted := datumCaptures_acceptedAll (datumsMoved chosen s)
    (indices.filter fun j => chosen j && s.allTracking j)
  simp only [datumsMoved_source] at accepted
  exact accepted

theorem datumCaptures_nextSeq (s : State) (axes : List (Fin 4)) :
    (datumCaptures s axes).capture.nextSeq = s.capture.nextSeq + BitVec.ofNat 32 axes.length := by
  induction axes generalizing s with
  | nil => simp [datumCaptures]
  | cons j rest ih =>
    rw [datumCaptures, ih, acceptCapture_nextSeq, List.length_cons, BitVec.add_assoc, Nat.add_comm, BitVec.ofNat_add]
    rfl

/-- The axis of a datum reads its preset: the dead-path correction of an axis with N_dat the N in use is 0 (R57, R83). -/
theorem axisValue_referenced {s t : State} {j : Fin 4} {preset : Int} (axis : t.axes.get j = referenceAxis s j preset)
    (params : t.params = s.params) (channels : t.channels = s.channels) (refr : t.refr = s.refr)
    (inUse : 0 ≤ s.refr.nInUse) : axisValue t j = clampTo (-140737488355327) 140737488355327 preset := by
  have state : (t.axes.get j).state = .referenced := by rw [axis]; rfl
  have nDat : (t.axes.get j).nDat = t.refr.nInUse := by rw [axis, refr]; rfl
  have correction : ∀ c, deadPathCorrection t j c = 0 := by
    intro c
    rw [deadPathCorrection, state]
    show deadPathTerm _ _ _ = 0
    rw [nDat, deadPathTerm, Int.sub_self, Int.mul_zero, Int.zero_mul]
    exact roundDiv_zero (by rw [refr]; omega)
  have displacement : ∀ c, channelDisplacement t c = channelDisplacement s c := by
    intro c
    rw [channelDisplacement, channelDisplacement, params, channels, refr]
  have raw : rawValue t j = geometricSum s j := by
    rw [rawValue_defined (by rw [state]; decide), geometricSum, params]
    simp only [correction, displacement, Int.sub_zero]
  have exact : exactValue t j = preset := by
    rw [exactValue_defined (by rw [state]; decide), raw, axis]
    show geometricSum s j + (preset - geometricSum s j) = preset
    omega
  rw [axisValue, exact]
  rfl

/-! ## Reference marks -/

/-- The slots that a reference mark applies. -/
def marked (input : RefInput) (edge : Edge) (s : State) (j : Fin 4) : Bool :=
  decide ((s.slots.get j).state = .armed ∧ (s.slots.get j).source = sourceOfRef input ∧ (s.slots.get j).edge = edge)

theorem matchesMark_eq (input : RefInput) (edge : Edge) (s : State) (j : Fin 4) :
    (s.slots.get j).matchesMark input edge = marked input edge s j := by
  simp [DatumSlot.matchesMark, marked, beq_eq_decide, Bool.and_assoc]

theorem exec_referenceMarkEvent {s : State} (high : s.resetLow = false) (input : RefInput) (edge : Edge) :
    exec (.referenceMarkEvent input edge) s = .next (applyDatums (marked input edge s) s) := by
  show live s (takeMark input edge) = _
  rw [live_of_high high, takeMark]
  simp only [matchesMark_eq]

/-- Settles O38: `applyDatums` on the slots that the mark names. -/
theorem referenceMarksApplyDatums : Obligations.ReferenceMarksApplyDatums := by
  intro s input edge high inUse
  refine ⟨_, exec_referenceMarkEvent high input edge, ?_, applyDatums_applied _ s, ?_,
    fun j => ⟨fun hm => ⟨fun tracking => ?_, fun lost => ?_⟩, fun unmarked => ?_⟩⟩
  · rw [applyDatums_frame]
  · rw [applyDatums_eq, datumCaptures_nextSeq, datumsMoved_frame, List.countP_eq_length_filter]
    simp only [marked, Bool.decide_and, Bool.and_assoc, Bool.decide_eq_true]
  · have hm : marked input edge s j = true := decide_eq_true hm
    obtain ⟨axis, slot⟩ := datumsMoved_done hm tracking
    rw [applyDatums_axes, applyDatums_slots, axis, slot]
    refine ⟨rfl, rfl, rfl, fun c => Four.get_ofFn _ c, ?_, rfl, applyDatums_datumDone hm tracking⟩
    exact axisValue_referenced (by rw [applyDatums_axes, axis]) (by simp) (by simp) (by simp) inUse
  · have hm : marked input edge s j = true := decide_eq_true hm
    obtain ⟨axis, slot⟩ := datumsMoved_failed hm lost
    rw [applyDatums_axes, applyDatums_slots, axis, slot]
    exact ⟨rfl, rfl, applyDatums_datumFailed hm lost⟩
  · rw [applyDatums_axes, applyDatums_slots]
    exact datumsMoved_other (decide_eq_false unmarked)

/-! ## Gate reports -/

/-- The slots that a gate report applies. -/
def immediate (s : State) (j : Fin 4) : Bool :=
  decide ((s.slots.get j).state = .armed ∧ (s.slots.get j).source = .immediate)

theorem immediateArmed_eq (s : State) (j : Fin 4) : (s.slots.get j).immediateArmed = immediate s j := by
  simp [DatumSlot.immediateArmed, immediate, beq_eq_decide]

theorem expires_iff (d : DatumSlot) :
    d.expires = true ↔ d.state = .armed ∧ d.timeout ≠ 0 ∧ min (d.age + 1) 65535 = d.timeout := by
  simp [DatumSlot.expires, satSucc_eq_min, Nat.min_comm, and_assoc]

/-- A slot that is not ARMED is not aged (R85). -/
theorem countReport_unarmed {d : DatumSlot} (h : d.state ≠ .armed) : d.countReport = d := if_neg h

theorem countReport_expired {d : DatumSlot} (h : d.expires = true) :
    d.countReport =
      { d with state := .idle, owner := none, outcome := .timeout, age := min (d.age + 1) 65535 } := by
  rw [DatumSlot.countReport, if_pos ((expires_iff d).mp h).1, if_pos h, satSucc_eq_min, Nat.min_comm]
  rfl

theorem countReport_aged {d : DatumSlot} (armed : d.state = .armed) (h : ¬ d.expires = true) :
    d.countReport = { d with age := min (d.age + 1) 65535 } := by
  rw [DatumSlot.countReport, if_pos armed, if_neg h, satSucc_eq_min, Nat.min_comm]

theorem ageSlots_slots_get (s : State) (j : Fin 4) : (ageSlots s).slots.get j = (s.slots.get j).countReport := by
  simp [ageSlots]

theorem ageSlots_datumFailed {s : State} {j : Fin 4} (h : (s.slots.get j).expires = true) :
    (ageSlots s).flagPending .datumFailed = true := by
  rw [ageSlots, (any_indices _).mpr ⟨j, h⟩]
  exact flagPending_raise_self _ _

theorem ageSlots_grows (s : State) : FlagsGrow s (ageSlots s) := fun f hf => flagsGrow_raiseIf _ _ _ f hf

/-- The part once the IMMEDIATE datums of a gate report are applied, before the slots are aged. -/
def immediatesApplied (s : State) : State := applyDatums (immediate s) { s with due := { s.due with datum := false } }

theorem exec_datumReport {s : State} {i : Instr} (row : i = .immediateDatum ∨ i = .datumTimeout)
    (high : s.resetLow = false) (due : s.due.datum = true) :
    exec i s = .next (ageSlots (immediatesApplied s)) := by
  have taken : live s takeDatumReport = .next (ageSlots (immediatesApplied s)) := by
    rw [live_of_high high, takeDatumReport, if_pos due]
    simp only [immediateArmed_eq]
    rfl
  rcases row with rfl | rfl
  · exact taken
  · exact taken

/-- A slot that a gate report applies is IDLE then; the others are as they were (R82 to R84). -/
theorem immediatesApplied_slots (s : State) (j : Fin 4) :
    (immediate s j = true ∧ ((immediatesApplied s).slots.get j).state = .idle) ∨
      (immediate s j = false ∧ (immediatesApplied s).slots.get j = s.slots.get j) := by
  rw [immediatesApplied, applyDatums_slots, datumsMoved_slots_get]
  cases hi : immediate s j with
  | true =>
    cases ({ s with due := { s.due with datum := false } } : State).allTracking j
    · exact .inl ⟨rfl, rfl⟩
    · exact .inl ⟨rfl, rfl⟩
  | false => exact .inr ⟨rfl, rfl⟩

theorem immediatesApplied_expires (s : State) (j : Fin 4) :
    ((immediatesApplied s).slots.get j).expires = true ↔
      (s.slots.get j).state = .armed ∧ (s.slots.get j).source ≠ .immediate ∧ (s.slots.get j).timeout ≠ 0 ∧
        min ((s.slots.get j).age + 1) 65535 = (s.slots.get j).timeout := by
  rw [expires_iff]
  rcases immediatesApplied_slots s j with ⟨hi, idle⟩ | ⟨hi, same⟩
  · have applied := of_decide_eq_true hi
    exact iff_of_false (fun h => by rw [idle] at h; cases h.1) fun h => h.2.1 applied.2
  · have unapplied := of_decide_eq_false hi
    rw [same]
    constructor
    · rintro ⟨armed, timeout⟩
      exact ⟨armed, fun source => unapplied ⟨armed, source⟩, timeout⟩
    · rintro ⟨armed, -, timeout⟩
      exact ⟨armed, timeout⟩

theorem ageSlots_frame (s : State) :
    ageSlots s =
      { s with
        slots := (ageSlots s).slots
        events := { s.events with
          pending := s.events.pending ||| (if ∃ j, (s.slots.get j).expires = true then 64 else 0) } } := by
  unfold ageSlots
  rw [raiseIf_eq, any_done]
  rfl

theorem immediatesApplied_frame (s : State) :
    immediatesApplied s =
      { s with
        axes := (immediatesApplied s).axes, slots := (immediatesApplied s).slots, capture := (immediatesApplied s).capture
        main := { s.main with lost := (immediatesApplied s).main.lost }, due := { s.due with datum := false }
        events := { s.events with pending := (immediatesApplied s).events.pending } } := by
  unfold immediatesApplied
  rw [applyDatums_frame]

theorem ageSlots_axes (s : State) : (ageSlots s).axes = s.axes := by simp [ageSlots]

theorem immediatesApplied_axes (s : State) :
    (immediatesApplied s).axes = (datumsMoved (immediate s) { s with due := { s.due with datum := false } }).axes :=
  applyDatums_axes _ _

theorem immediatesApplied_slots_eq (s : State) :
    (immediatesApplied s).slots = (datumsMoved (immediate s) { s with due := { s.due with datum := false } }).slots :=
  applyDatums_slots _ _

/-- Settles O39: the IMMEDIATE slots are applied, then the ARMED ones aged. -/
theorem gateReportsApplyAndExpireDatums : Obligations.GateReportsApplyAndExpireDatums := by
  intro s i row high due
  have others : ∀ j, immediate s j = false →
      (immediatesApplied s).axes.get j = s.axes.get j ∧ (immediatesApplied s).slots.get j = s.slots.get j := by
    intro j hi
    rw [immediatesApplied_axes, immediatesApplied_slots_eq]
    exact datumsMoved_other hi
  refine ⟨_, exec_datumReport row high due, ?_, ⟨immediatesApplied s, applyDatums_applied _ _, ?_⟩, fun j =>
    ⟨fun armed source tracking => ?_, fun armed source lost => ?_, fun armed source => ?_, fun unarmed => ?_⟩⟩
  · rw [ageSlots_frame, immediatesApplied_frame]
  · have frame := ageSlots_frame (immediatesApplied s)
    simp only [immediatesApplied_expires] at frame
    exact frame
  · have hi : immediate s j = true := decide_eq_true ⟨armed, source⟩
    obtain ⟨axis, slot⟩ := datumsMoved_done (s := { s with due := { s.due with datum := false } }) hi tracking
    rw [ageSlots_axes, ageSlots_slots_get, immediatesApplied_axes, immediatesApplied_slots_eq, axis, slot,
      countReport_unarmed (show SlotState.idle ≠ .armed by decide)]
    refine ⟨rfl, rfl, rfl, rfl, fun c => Four.get_ofFn _ c, rfl, ageSlots_grows _ _ ?_⟩
    exact applyDatums_datumDone (s := { s with due := { s.due with datum := false } }) hi tracking
  · have hi : immediate s j = true := decide_eq_true ⟨armed, source⟩
    obtain ⟨axis, slot⟩ := datumsMoved_failed (s := { s with due := { s.due with datum := false } }) hi lost
    rw [ageSlots_axes, ageSlots_slots_get, immediatesApplied_axes, immediatesApplied_slots_eq, axis, slot,
      countReport_unarmed (show SlotState.idle ≠ .armed by decide)]
    refine ⟨rfl, rfl, ageSlots_grows _ _ ?_⟩
    exact applyDatums_datumFailed (s := { s with due := { s.due with datum := false } }) hi lost
  · obtain ⟨axis, slot⟩ := others j (decide_eq_false fun h => source h.2)
    have expires := immediatesApplied_expires s j
    rw [ageSlots_axes, ageSlots_slots_get, axis, slot]
    rw [slot] at expires
    refine ⟨rfl, fun timeout reached => ?_, fun unreached => ?_⟩
    · have expired := expires.mpr ⟨armed, source, timeout, reached⟩
      exact ⟨countReport_expired expired, ageSlots_datumFailed (by rw [slot]; exact expired)⟩
    · refine countReport_aged armed fun expired => ?_
      obtain ⟨-, -, timeout, reached⟩ := expires.mp expired
      exact unreached.elim timeout fun h => h reached
  · obtain ⟨axis, slot⟩ := others j (decide_eq_false fun h => unarmed h.1)
    rw [ageSlots_axes, ageSlots_slots_get, axis, slot]
    exact ⟨rfl, countReport_unarmed unarmed⟩

end Sys2Proof.Machine
end

section
/-! PROOFS. Captures: what they latch, and how the requests from outside are accepted (R26, R73, R103 to R111, R120). -/

namespace Sys2Proof.Machine

/-! ## Latches -/

theorem onGenerator_iff (s : State) (j : Fin 4) :
    s.onGenerator j = true ↔ ∃ c, weighted s.params j c = true ∧ (s.channels.get c).source = .generator := by
  simp [State.onGenerator]

theorem trackerOnGenerator_iff (s : State) :
    s.trackerOnGenerator = true ↔ ∃ c, s.params.trackerCh = some c ∧ (s.channels.get c).source = .generator := by
  unfold State.trackerOnGenerator
  cases s.params.trackerCh with
  | none => exact iff_of_false nofun fun ⟨c, h, _⟩ => nomatch h
  | some c =>
    refine beq_iff_eq.trans ⟨fun h => ⟨c, rfl, h⟩, ?_⟩
    rintro ⟨d, hd, h⟩
    cases hd
    exact h

theorem listedAxes_eq (s : State) (forced : Option (Fin 4)) :
    listedAxes s forced =
      ([0, 1, 2, 3] : List (Fin 4)).filter fun (j : Fin 4) =>
        decide ((s.params.captureAxes.getLsbD j = true ∧ (s.axes.get j).state ≠ .undefined) ∨ forced = some j) := by
  refine List.filter_congr fun j _ => ?_
  rw [Bool.eq_iff_iff, decide_eq_true_eq, Bool.or_eq_true, Bool.and_eq_true, bne_iff_ne, beq_iff_eq]

theorem effectiveLock_unlocked (s : State) :
    (s.effectiveLock != .locked) = true ↔ s.params.lockOverride = false ∧ s.lock.state ≠ .locked := by
  cases h : s.params.lockOverride <;> simp [State.effectiveLock, h]

theorem openScan_of_state {s : State} {d : Descriptor} (state : s.scan.state = .armed ∨ s.scan.state = .active)
    (descriptor : s.scan.descriptor = some d) : s.openScan = some d := by
  rw [State.openScan, State.scanIsOpen]
  rcases state with h | h <;> simp [h, descriptor]

theorem openScan_none_of_state {s : State} (state : s.scan.state = .idle ∨ s.scan.state = .aborted) : s.openScan = none := by
  rw [State.openScan, State.scanIsOpen]
  rcases state with h | h <;> simp [h]

/-- Settles O40: the latch, field by field. -/
theorem latchesHoldOneSampleSet : Obligations.LatchesHoldOneSampleSet := by
  intro s forced
  have axes : (latchNow s forced).axes = (listedAxes s forced).map (latchAxis s) := rfl
  refine ⟨?_, fun a ha => ?_, fun c => Four.get_mapIdx .., fun j => Four.get_mapIdx .., rfl, effectiveLock_unlocked s, rfl,
    beq_iff_eq, beq_iff_eq, ?_, fun state d descriptor => ?_, fun state => ?_⟩
  · rw [axes, ← listedAxes_eq, List.map_map]
    exact List.map_id _
  · rw [axes] at ha
    obtain ⟨j, -, rfl⟩ := List.mem_map.mp ha
    exact ⟨rfl, rfl, rfl, rfl, onGenerator_iff s j⟩
  · rw [axes, ← trackerOnGenerator_iff]
    refine Bool.or_eq_true_iff.trans (or_congr_left ?_)
    simp only [List.any_eq_true, List.mem_map]
    constructor
    · rintro ⟨j, hj, test⟩
      exact ⟨_, ⟨j, hj, rfl⟩, test⟩
    · rintro ⟨_, ⟨j, hj, rfl⟩, test⟩
      exact ⟨j, hj, test⟩
  · show s.openScanId = d.id
    rw [State.openScanId, openScan_of_state state descriptor]
  · show s.openScanId = 0
    rw [State.openScanId, openScan_none_of_state state]

/-! ## Requests -/

theorem insideScan_some {s : State} {input : LineInput} {d : Descriptor} (active : s.scan.state = .active)
    (descriptor : s.scan.descriptor = some d) (line : d.line = input) : insideScan s input = some d := by
  rw [insideScan, if_pos active, descriptor, Option.filter_some, if_pos (beq_iff_eq.mpr line)]

theorem insideScan_none {s : State} {input : LineInput}
    (outside : s.scan.state = .active → ∀ d, s.scan.descriptor = some d → d.line ≠ input) : insideScan s input = none := by
  unfold insideScan
  split
  next active =>
    exact Option.filter_eq_none_iff.mpr fun d hd => by simpa using outside active d hd
  next => rfl

theorem slotFree_iff (s : State) : s.slotFree = true ↔ s.capture.inFlight.length < 8 := decide_eq_true_iff

/-- Settles O41: each request is an acceptance, or has no effect. -/
theorem captureRequestsAreAccepted : Obligations.CaptureRequestsAreAccepted := by
  refine ⟨fun s input edge high => ⟨fun other => ?_, fun selected => ⟨fun d active descriptor line => ?_, fun outside =>
    ⟨fun keep => ?_, fun discard => ?_⟩⟩⟩, fun s waits => ?_, fun s b l high request code latched => ?_⟩
  · exact (live_of_high high _).trans (congrArg _ (if_pos other))
  · refine ⟨_, acceptCapture_accepted _ _ _, ?_⟩
    show live s (takeLineEvent input edge) = _
    rw [live_of_high high, takeLineEvent, if_neg (not_not_intro selected), insideScan_some active descriptor line]
  · refine ⟨_, acceptCapture_accepted _ _ _, ?_⟩
    show live s (takeLineEvent input edge) = _
    rw [live_of_high high, takeLineEvent, if_neg (not_not_intro selected), insideScan_none outside]
    exact congrArg _ (if_pos keep)
  · show live s (takeLineEvent input edge) = _
    rw [live_of_high high, takeLineEvent, if_neg (not_not_intro selected), insideScan_none outside]
    exact congrArg _ (if_neg (by rw [discard]; decide))
  · refine ⟨_, acceptCapture_accepted _ _ _, ?_⟩
    show execCaptureNow s = _
    rw [execCaptureNow, answered waits rfl]
    by_cases free : s.capture.inFlight.length < 8
    · simp only [(slotFree_iff s).mpr free, if_pos free]
      rfl
    · simp only [Bool.eq_false_iff.mpr (free ∘ (slotFree_iff s).mp), if_neg free]
      rfl
  · refine ⟨_, acceptCapture_accepted _ _ _, ?_⟩
    show live s (takeRequestOf 3) = _
    rw [live_of_high high, exec_servoRequest request code, takeRequestByte, requestCode, code]
    show Host.Outcome.next (servoStrobe s) = _
    have strobe : servoStrobe s =
        requestDone (if s.slotFree then .accepted else .noSlot) (acceptCapture (.strobe .servo) l s) := by
      rw [servoStrobe, latched]
    rw [strobe]
    unfold requestDone
    rw [acceptCapture_sv]
    by_cases free : s.capture.inFlight.length < 8
    · simp only [(slotFree_iff s).mpr free, if_pos free]
      rfl
    · simp only [Bool.eq_false_iff.mpr (free ∘ (slotFree_iff s).mp), if_neg free]
      rfl

end Sys2Proof.Machine
end

section
/-! PROOFS. Finalization: the record of a capture and the ring that it is handed to (R61, R114 to R119). -/

namespace Sys2Proof.Machine

/-! ## A queue of captures, one by one -/

theorem holdCompare_withCapture (unit : CaptureUnit) (s : State) :
    holdCompare { s with capture := unit } = { holdCompare s with capture := unit } := by
  unfold holdCompare
  cases s.hold.state
  all_goals
    dsimp only
    split <;> rfl

theorem handToMain_withCapture (record : Record) (unit : CaptureUnit) (s : State) :
    handToMain record { s with capture := unit } = { handToMain record s with capture := unit } := by
  by_cases room : s.main.records.length < Config.mainCapacity ∧ s.seqHeld record.seq = false
  · rw [handToMain, handToMain, if_pos room]
    exact (if_pos (c := s.main.records.length < Config.mainCapacity ∧ s.seqHeld record.seq = false) room).trans
      (holdCompare_withCapture unit (raise .mainReady { s with main := s.main.commit record }))
  · rw [handToMain, handToMain, if_neg room]
    exact if_neg (c := s.main.records.length < Config.mainCapacity ∧ s.seqHeld record.seq = false) room

theorem handToException_withCapture (record : Record) (unit : CaptureUnit) (s : State) :
    handToException record { s with capture := unit } = { handToException record s with capture := unit } := by
  by_cases room : s.exc.records.length < Config.exceptionCapacity ∧ s.seqHeld record.seq = false
  · rw [handToException, handToException, if_pos room]
    exact if_pos (c := s.exc.records.length < Config.exceptionCapacity ∧ s.seqHeld record.seq = false) room
  · rw [handToException, handToException, if_neg room]
    exact if_neg (c := s.exc.records.length < Config.exceptionCapacity ∧ s.seqHeld record.seq = false) room

theorem handLine_withCapture (answer : LineAnswer) (record : Record) (unit : CaptureUnit) (s : State) :
    handLine answer record { s with capture := unit } = { handLine answer record s with capture := unit } := by
  unfold handLine
  dsimp only
  split
  · exact handToMain_withCapture _ _ _
  · exact handToException_withCapture _ _ _

/-- The matcher does not look at the captures in flight. -/
theorem matchLine_withCapture (q : LineQuery) (unit : CaptureUnit) (s : State) :
    matchLine q { s with capture := unit } = ({ (matchLine q s).1 with capture := unit }, (matchLine q s).2) := by
  unfold matchLine
  split
  · rfl
  · unfold lookupLine
    dsimp only
    split <;> rfl

/-- The completion of a capture does not look at the others in flight. -/
theorem finalize_withCapture (r : GateReport) (unit : CaptureUnit) (s : State) (c : Capture) :
    finalize r { s with capture := unit } c = { finalize r s c with capture := unit } := by
  unfold finalize
  split
  · dsimp only
    rw [matchLine_withCapture]
    exact handLine_withCapture _ _ _ _
  · exact handLine_withCapture _ _ _ _
  · exact handLine_withCapture _ _ _ _
  · exact handToMain_withCapture _ _ _
  · exact handToMain_withCapture _ _ _
  · exact handToMain_withCapture _ _ _

/-- The part once the Capture Unit has freed the slots that await the gate of its report. -/
def slotsFreed (rest : List Capture) (s : State) : State :=
  { s with capture := { s.capture with inFlight := rest }, due := { s.due with capture := none } }

theorem exec_captureFinalization {s : State} {r : GateReport} (high : s.resetLow = false) (due : s.due.capture = some r) :
    exec .captureFinalization s =
      .next ((s.capture.inFlight.filter fun q => q.gate == r.gate).foldl (finalize r)
        (slotsFreed (s.capture.inFlight.filter fun q => q.gate != r.gate) s)) := by
  show live s takeCaptureReport = _
  rw [live_of_high high, takeCaptureReport, due]
  rfl

/-- A single capture that awaits the gate of the report. -/
theorem exec_captureFinalization_one {s : State} {r : GateReport} {c : Capture} (high : s.resetLow = false)
    (due : s.due.capture = some r) (inFlight : s.capture.inFlight = [c]) (gate : c.gate = r.gate) :
    exec .captureFinalization s = .next (finalize r (slotsFreed [] s) c) := by
  rw [exec_captureFinalization high due, inFlight]
  simp [gate]

theorem finalize_due (r : GateReport) (s : State) (c : Capture) : (finalize r s c).due = s.due := by rw [finalize_frame]

theorem finalize_resetLow (r : GateReport) (s : State) (c : Capture) : (finalize r s c).resetLow = s.resetLow := by
  rw [finalize_frame]

theorem finalize_inFlight (r : GateReport) (s : State) (c : Capture) : (finalize r s c).capture = s.capture := by
  rw [finalize_frame]

/-- The captures that await a gate are finalized one after the other, the others staying in their slots (R114). -/
theorem exec_captureFinalization_cons {s : State} {r : GateReport} {c : Capture} {more : List Capture}
    (high : s.resetLow = false) (due : s.due.capture = some r)
    (queue : (s.capture.inFlight.filter fun q => q.gate == r.gate) = c :: more) :
    ∃ t, exec .captureFinalization { s with capture := { s.capture with inFlight := [c] } } = .next t ∧
      exec .captureFinalization s =
        exec .captureFinalization
          { t with
            due := { t.due with capture := some r }
            capture := { t.capture with inFlight := (s.capture.inFlight.filter fun q => q.gate != r.gate) ++ more } } := by
  have awaits : ∀ q ∈ c :: more, q.gate = r.gate := by
    intro q hq
    rw [← queue, List.mem_filter] at hq
    exact beq_iff_eq.mp hq.2
  have gate := awaits c (.head _)
  refine ⟨_, exec_captureFinalization_one (s := { s with capture := { s.capture with inFlight := [c] } }) high due rfl gate, ?_⟩
  generalize hrest : (s.capture.inFlight.filter fun q => q.gate != r.gate) = rest
  have others : ∀ q ∈ rest, q.gate ≠ r.gate := by
    intro q hq
    rw [← hrest, List.mem_filter] at hq
    exact bne_iff_ne.mp hq.2
  have freed : finalize r (slotsFreed rest s) c =
      { finalize r (slotsFreed [] s) c with capture := { s.capture with inFlight := rest } } :=
    finalize_withCapture r { s.capture with inFlight := rest } (slotsFreed [] s) c
  have due' := finalize_due r (slotsFreed [] s) c
  have capture' := finalize_inFlight r (slotsFreed [] s) c
  have high' := (finalize_resetLow r (slotsFreed [] s) c).trans high
  rw [exec_captureFinalization high due, queue, hrest, List.foldl_cons, freed]
  show _ = exec .captureFinalization
    { finalize r (slotsFreed [] s) c with
      due := { (finalize r (slotsFreed [] s) c).due with capture := some r }
      capture := { (finalize r (slotsFreed [] s) c).capture with inFlight := rest ++ more } }
  generalize finalize r (slotsFreed [] s) c = x at *
  rw [exec_captureFinalization (r := r)
    (s := { x with
      due := { x.due with capture := some r }, capture := { x.capture with inFlight := rest ++ more } }) high' rfl]
  have mine : ((rest ++ more).filter fun q => q.gate == r.gate) = more := by
    rw [List.filter_append, List.filter_eq_nil_iff.mpr fun q hq => by simpa using others q hq,
      List.filter_eq_self.mpr fun q hq => by simpa using awaits q (.tail _ hq), List.nil_append]
  have left : ((rest ++ more).filter fun q => q.gate != r.gate) = rest := by
    rw [List.filter_append, List.filter_eq_self.mpr fun q hq => by simpa using others q hq,
      List.filter_eq_nil_iff.mpr fun q hq => by simpa using awaits q (.tail _ hq), List.append_nil]
  simp only [mine, left, slotsFreed, due', capture']

/-! ## The record -/

/-- The exact value of an axis entry, before its clamp (R61, R115). -/
def exactEntry (p : Params) (r : GateReport) (kind : CaptureKind) (a : LatchedAxis) : Int :=
  match kind with
  | .line input _ => if (r.axes.get a.axis).valid then lineExact p r input a else a.value
  | .strobe _ | .datum _ | .scanEnd _ => a.value

theorem exactEntry_other {p : Params} {r : GateReport} {kind : CaptureKind} (other : ¬ ∃ input mark, kind = .line input mark)
    (a : LatchedAxis) : exactEntry p r kind a = a.value := by
  cases kind
  case line input mark => exact absurd ⟨input, mark, rfl⟩ other
  all_goals rfl

theorem exactEntry_invalid {p : Params} {r : GateReport} {input : LineInput} {mark : InsideMark} {a : LatchedAxis}
    (invalid : (r.axes.get a.axis).valid = false) : exactEntry p r (.line input mark) a = a.value :=
  if_neg (by rw [invalid]; decide)

theorem exactEntry_valid {p : Params} {r : GateReport} {input : LineInput} {mark : InsideMark} {a : LatchedAxis}
    (valid : (r.axes.get a.axis).valid = true) :
    exactEntry p r (.line input mark) a =
      a.value - latencyTerm (r.axes.get a.axis).velocity (lineLatency p input) r.length r.tNs := if_pos valid

theorem lineLatency_eq (p : Params) (input : LineInput) :
    lineLatency p input = if input = .line0 then p.lineLatency0 else p.lineLatency1 := by cases input <;> rfl

theorem clampLength_eq_iff (v : Int) : clampLength v = v ↔ inLengthRange v = true := by
  constructor
  · intro same
    rw [← same]
    exact clampLength_inRange v
  · exact fun range => clampTo_eq_self (of_decide_eq_true range)

/-- The value of an entry is the exact one clamped, its latched value being in range (R115). -/
theorem entryValue_eq {p : Params} {r : GateReport} {kind : CaptureKind} {a : LatchedAxis}
    (range : inLengthRange a.value = true) : entryValue p r kind a = clampLength (exactEntry p r kind a) := by
  have latched := (clampLength_eq_iff a.value).mpr range
  unfold entryValue exactEntry
  cases kind
  case line input mark =>
    dsimp only
    split
    · rfl
    · exact latched.symm
  all_goals exact latched.symm

theorem entryClamped_iff {p : Params} {r : GateReport} {kind : CaptureKind} {a : LatchedAxis}
    (range : inLengthRange a.value = true) :
    entryClamped p r kind a = true ↔ a.clamped = true ∨ inLengthRange (exactEntry p r kind a) = false := by
  have within : a.clamped = true ↔ a.clamped = true ∨ inLengthRange a.value = false := by simp [range]
  unfold entryClamped exactEntry
  cases kind
  case line input mark =>
    dsimp only
    split
    next valid =>
      rw [Bool.or_eq_true, valid, Bool.true_and, bne_iff_ne, ne_eq, clampLength_eq_iff, Bool.not_eq_true]
    next invalid =>
      rw [Bool.eq_false_iff.mpr invalid, Bool.false_and, Bool.or_false]
      exact within
  all_goals exact within

/-- The answer with which a capture is handed to its ring: the matcher's for an inside LINE, OUTSIDE_SCAN for another LINE,
and none for the rest (R118, R119). -/
def finalAnswer (r : GateReport) (c : Capture) (u : State) : LineAnswer :=
  match c.kind with
  | .line _ (.inside j) => (matchLine (lineQuery u.params r c j) u).2
  | .line _ .outside | .line _ (.scanEnded _) => { reason := some .outsideScan, part := none }
  | .strobe _ | .datum _ | .scanEnd _ => { reason := none, part := none }

/-- The record of a capture. -/
def finalRecord (r : GateReport) (c : Capture) (u : State) : Record :=
  { baseRecord u.params r c with matchPart := (finalAnswer r c u).part, reason := (finalAnswer r c u).reason }

theorem matched_of_resultReason {result : MatchResult} (h : resultReason result = none) : result = .matched := by
  cases result
  case matched => rfl
  all_goals cases h

/-- An answer without a reason is MATCHED (R142). -/
theorem matchLine_matched {q : LineQuery} {s : State} (h : (matchLine q s).2.reason = none) :
    ((matchLine q s).2.part.map fun part => part.result) = some .matched := by
  unfold matchLine at *
  split at h
  · cases h
  · unfold lookupLine at *
    split at h
    · cases h
    · exact congrArg some (matched_of_resultReason h)

theorem handLine_main {answer : LineAnswer} {record : Record} {s : State} (reason : answer.reason = none)
    (matched : (answer.part.map fun part => part.result) = some .matched) :
    handLine answer record s = handToMain { record with matchPart := answer.part, reason := answer.reason } s :=
  if_pos ⟨reason, matched⟩

theorem handLine_exception {answer : LineAnswer} {record : Record} {s : State} (reason : answer.reason ≠ none) :
    handLine answer record s = handToException { record with matchPart := answer.part, reason := answer.reason } s :=
  if_neg fun h => reason h.1

/-- A LINE capture marked inside, at its end (R118, R119). -/
theorem finalize_inside {r : GateReport} {c : Capture} {u : State} {input : LineInput} {j : Fin 4}
    (kind : c.kind = .line input (.inside j)) :
    finalize r u c =
      handLine (finalAnswer r c u) (baseRecord u.params r c) (matchLine (lineQuery u.params r c j) u).1 := by
  rw [finalize, finalAnswer, kind]

section

variable {c : Capture} (other : ¬ ∃ input mark, c.kind = .line input mark)

include other

theorem finalize_other (r : GateReport) (u : State) : finalize r u c = handToMain (baseRecord u.params r c) u := by
  cases kind : c.kind with
  | line input mark => exact absurd ⟨input, mark, kind⟩ other
  | strobe source => rw [finalize, kind]
  | datum source => rw [finalize, kind]
  | scanEnd summary => rw [finalize, kind]

theorem finalAnswer_other (r : GateReport) (u : State) : finalAnswer r c u = { reason := none, part := none } := by
  cases kind : c.kind with
  | line input mark => exact absurd ⟨input, mark, kind⟩ other
  | strobe source => rw [finalAnswer, kind]
  | datum source => rw [finalAnswer, kind]
  | scanEnd summary => rw [finalAnswer, kind]

theorem recordDirection_other (r : GateReport) : recordDirection r c = none := by
  cases kind : c.kind with
  | line input mark => exact absurd ⟨input, mark, kind⟩ other
  | strobe source => rw [recordDirection, kind]
  | datum source => rw [recordDirection, kind]
  | scanEnd summary => rw [recordDirection, kind]

end

/-- Settles O42: the queue taken one by one, and the record of a single capture by its kind. -/
theorem finalizationMakesTheRecord : Obligations.FinalizationMakesTheRecord := by
  refine ⟨fun s high due => ?_, fun s r high due none => ?_,
    fun s r c more high due queue => exec_captureFinalization_cons high due queue,
    fun s r c high due inFlight gate length tNs => ?_⟩
  · show live s takeCaptureReport = _
    rw [live_of_high high, takeCaptureReport, due]
  · have others : (s.capture.inFlight.filter fun q => q.gate != r.gate) = s.capture.inFlight :=
      List.filter_eq_self.mpr fun q hq => by simpa using List.filter_eq_nil_iff.mp none q hq
    rw [exec_captureFinalization high due, none, others]
    rfl
  · have run := exec_captureFinalization_one high due inFlight gate
    refine ⟨finalRecord r c (slotsFreed [] s), slotsFreed [] s, exactEntry s.params r c.kind, rfl,
      fun a ha => ⟨fun other => exactEntry_other other a, fun input mark kind => ⟨fun invalid => ?_, fun valid => ?_⟩⟩,
      rfl, rfl, rfl, rfl, rfl, fun range => ?_, rfl, rfl, rfl, rfl, rfl, fun range => ?_, ?_, ?_, ?_, fun other => ?_,
      fun input mark kind => ⟨?_, ?_, ?_, ?_⟩⟩
    · rw [kind]; exact exactEntry_invalid invalid
    · refine ⟨latencyTerm (r.axes.get a.axis).velocity (lineLatency s.params input) r.length r.tNs, ?_, ?_⟩
      · rw [kind]; exact exactEntry_valid valid
      · have rounded := roundDiv_isRounded (Int.mul_pos (Int.natCast_pos.mpr length) tNs)
          ((r.axes.get a.axis).velocity * lineLatency s.params input)
        rw [lineLatency_eq] at rounded ⊢
        exact rounded
    · refine List.map_congr_left fun a ha => ?_
      rw [completeAxis, entryValue_eq (range a ha)]
      rfl
    · refine List.any_eq_true.trans (exists_congr fun a => and_congr_right fun ha => entryClamped_iff (range a ha))
    · refine List.any_eq_true.trans (exists_congr fun a => and_congr_right fun ha => ?_)
      rw [Bool.not_eq_true']
    · refine List.any_eq_true.trans (exists_congr fun a => and_congr_right fun ha => ?_)
      rw [Bool.not_eq_true']
    · exact List.any_eq_true
    · rw [finalize_other other] at run
      rw [finalRecord, finalAnswer_other other]
      exact ⟨recordDirection_other other r, rfl, rfl, run⟩
    · intro j hj
      have axis : directionAxis mark c.latch = some j := by
        rcases hj with rfl | rfl | ⟨rfl, first⟩
        · rfl
        · rfl
        · exact first
      have direction : recordDirection r c = some (directionOfSign (r.axes.get j).sign) := by
        rw [recordDirection, kind]
        simp only [axis]
      refine ⟨fun sign => ?_, fun sign => ?_, fun sign => ?_⟩
      · exact direction.trans (by rw [sign]; rfl)
      · exact direction.trans (by rw [sign]; rfl)
      · exact direction.trans (by rcases sign with sign | sign <;> rw [sign] <;> rfl)
    · rintro rfl empty
      show recordDirection r c = _
      rw [recordDirection, kind]
      simp [directionAxis, empty]
    · intro outside
      have answer : finalAnswer r c (slotsFreed [] s) = { reason := some .outsideScan, part := none } := by
        rcases outside with rfl | ⟨j, rfl⟩ <;> rw [finalAnswer, kind]
      have handed : finalize r (slotsFreed [] s) c =
          handLine { reason := some .outsideScan, part := none } (baseRecord s.params r c) (slotsFreed [] s) := by
        rcases outside with rfl | ⟨j, rfl⟩ <;> rw [finalize, kind] <;> rfl
      rw [handed, handLine_exception (Option.some_ne_none _)] at run
      rw [finalRecord, answer]
      exact ⟨rfl, rfl, run⟩
    · rintro j a rfl found range
      have answer : finalAnswer r c (slotsFreed [] s) = (matchLine (lineQuery s.params r c j) (slotsFreed [] s)).2 := by
        rw [finalAnswer, kind]
        rfl
      have query : lineQuery s.params r c j =
          { x := (completeAxis s.params r c.kind a).value, state := a.state, epoch := a.epoch
            valid := (r.axes.get j).valid, fast := (r.axes.get j).fast, seq := c.seq } := by
        rw [lineQuery, found]
        rfl
      rw [finalize_inside kind] at run
      refine ⟨lineQuery s.params r c j, matchLine (lineQuery s.params r c j) (slotsFreed [] s), rfl, ?_, by rw [query],
        by rw [query], rfl, rfl, rfl, congrArg LineAnswer.part answer, congrArg LineAnswer.reason answer,
        fun reason => ?_, fun reason => ?_⟩
      · rw [query]
        exact entryValue_eq range
      · have reason : (finalAnswer r c (slotsFreed [] s)).reason = none := reason
        have matched := matchLine_matched (answer ▸ reason)
        rw [← answer] at matched
        rw [handLine_main reason matched] at run
        exact run
      · have reason : (finalAnswer r c (slotsFreed [] s)).reason ≠ none := reason
        rw [handLine_exception reason] at run
        exact run

end Sys2Proof.Machine
end

section
/-! PROOFS. The graduation table and the matcher: a line looked up, and the table commands (R126 to R142, R156). -/

namespace Sys2Proof.Machine

/-! ## The search of a table -/

/-- The search from a position gives the first entry that satisfies the test. -/
theorem findFrom_first {p : Entry → Bool} {table : List Entry} {pos : Nat} {e : Entry} (start : Nat)
    (stands : table[pos]? = some e) (holds : p e = true)
    (first : ∀ (k : Nat) (f : Entry), k < pos → table[k]? = some f → p f = false) :
    findFrom p start table = some (start + pos, e) := by
  induction table generalizing start pos with
  | nil => simp at stands
  | cons x rest ih =>
    cases pos with
    | zero =>
      obtain rfl : x = e := by simpa using stands
      exact if_pos holds
    | succ pos =>
      have skip : p x = false := first 0 x pos.succ_pos rfl
      have found := ih (start + 1) (by simpa using stands) fun k f hk hf => first (k + 1) f (Nat.succ_lt_succ hk) hf
      rw [findFrom, skip, if_neg Bool.false_ne_true, found, Nat.succ_add_eq_add_succ]

theorem findEntry_first {p : Entry → Bool} {table : List Entry} {pos : Nat} {e : Entry}
    (stands : table[pos]? = some e) (holds : p e = true)
    (first : ∀ (k : Nat) (f : Entry), k < pos → table[k]? = some f → p f = false) :
    findEntry p table = some (pos, e) := by
  rw [findEntry, findFrom_first 0 stands holds first, Nat.zero_add]

/-- Of a test that no two entries satisfy, the search finds the one entry that does. -/
theorem findEntry_only {p : Entry → Bool} {table : List Entry} {pos : Nat} {e : Entry}
    (single : table.Pairwise fun a b => p b = true → p a = false) (stands : table[pos]? = some e) (holds : p e = true) :
    findEntry p table = some (pos, e) := by
  refine findEntry_first stands holds fun k f hk hf => ?_
  obtain ⟨hpos, rfl⟩ := List.getElem?_eq_some_iff.mp stands
  obtain ⟨hk', rfl⟩ := List.getElem?_eq_some_iff.mp hf
  exact List.pairwise_iff_getElem.mp single k pos hk' hpos hk holds

/-- No two entries of a lawful table share an index (R123). -/
theorem TableLaw.findIndex {table : List Entry} {pos : Nat} {e : Entry} {index : Nat} (law : TableLaw table)
    (stands : table[pos]? = some e) (named : e.index = index) :
    findEntry (fun h => h.index == index) table = some (pos, e) := by
  refine findEntry_only (law.2.2.imp fun {a b} apart hb => ?_) stands (beq_iff_eq.mpr named)
  exact beq_eq_false_iff_ne.mpr fun ha => apart.2.2 (ha.trans (beq_iff_eq.mp hb).symm)

theorem findIndex_none {table : List Entry} {index : Nat} (h : ∀ e, e ∈ table → e.index ≠ index) :
    findEntry (fun h => h.index == index) table = none :=
  findEntry_none.mpr fun e he => beq_eq_false_iff_ne.mpr (h e he)

theorem Entry.contains_iff {e : Entry} {x : Int} :
    e.contains x = true ↔ e.nominal - e.halfWindow ≤ x ∧ x ≤ e.nominal + e.halfWindow := decide_eq_true_iff

/-- No two windows of a lawful table hold the same value (R123). -/
theorem TableLaw.findWindow {table : List Entry} {pos : Nat} {e : Entry} {x : Int} (law : TableLaw table)
    (stands : table[pos]? = some e) (low : e.nominal - e.halfWindow ≤ x) (high : x ≤ e.nominal + e.halfWindow) :
    findEntry (fun e => e.contains x) table = some (pos, e) := by
  refine findEntry_only (law.2.2.imp fun {a b} apart hb => ?_) stands (Entry.contains_iff.mpr ⟨low, high⟩)
  obtain ⟨inB, -⟩ := Entry.contains_iff.mp hb
  obtain ⟨-, below, -⟩ := apart
  refine Bool.eq_false_iff.mpr fun ha => ?_
  obtain ⟨-, inA⟩ := Entry.contains_iff.mp ha
  omega

/-! ## The matching of a line -/

theorem matchLine_stopped {q : LineQuery} {reason : Reason} (h : preCheck q = some reason) (s : State) :
    matchLine q s = (s, { reason := some reason, part := none }) := by rw [matchLine, h]

theorem matchLine_lookedUp {q : LineQuery} (state : q.state = .referenced) (valid : q.valid = true) (slow : q.fast = false)
    (s : State) : matchLine q s = lookupLine q s := by
  have passed : preCheck q = none := by simp [preCheck, state, valid, slow]
  rw [matchLine, passed]

theorem lookupLine_stray {q : LineQuery} {s : State}
    (outside : ∀ e, e ∈ s.matcher.table → ¬ (e.nominal - e.halfWindow ≤ q.x ∧ q.x ≤ e.nominal + e.halfWindow)) :
    lookupLine q s =
      ({ s with scan := { s.scan with stray := satSucc 65535 s.scan.stray } },
        { reason := some .stray, part := some { result := .stray, index := none, deviation := none } }) := by
  have missed : findEntry (fun e => e.contains q.x) s.matcher.table = none :=
    findEntry_none.mpr fun e he => Bool.eq_false_iff.mpr fun h => outside e he (Entry.contains_iff.mp h)
  rw [lookupLine, missed]
  rfl

theorem lookupLine_found {q : LineQuery} {s : State} {pos : Nat} {e : Entry} {result : MatchResult}
    (found : findEntry (fun e => e.contains q.x) s.matcher.table = some (pos, e))
    (decided : entryResult s.scanDirection s.matcher.lastMatched e = result) :
    lookupLine q s =
      ({ s with matcher := s.matcher.found q.seq result pos e, scan := s.scan.tally result },
        { reason := resultReason result
          part := some { result := result, index := some e.index, deviation := some (q.x - e.nominal) } }) := by
  subst decided
  rw [lookupLine, found]

theorem modify_eq_set {α : Type} {l : List α} {n : Nat} {a : α} (f : α → α) (h : l[n]? = some a) :
    l.modify n f = l.set n (f a) := by
  rw [List.modify_eq_set_getElem?, h]
  rfl

theorem Matcher.found_outOfOrder (m : Matcher) (seq : Word32) (pos : Nat) (e : Entry) :
    m.found seq .outOfOrder pos e = m := by
  have same : Entry.hit seq .outOfOrder = id := rfl
  simp [Matcher.found, same]

theorem Matcher.found_matched {m : Matcher} {pos : Nat} {e : Entry} (h : m.table[pos]? = some e) (seq : Word32) :
    m.found seq .matched pos e =
      { table := m.table.set pos { e with hits := 1, firstHit := some seq }
        lastMatched := some e.nominal, cursor := some pos } := by
  simp [Matcher.found, modify_eq_set _ h, Entry.hit]

theorem Matcher.found_double {m : Matcher} {pos : Nat} {e : Entry} (h : m.table[pos]? = some e) (seq : Word32) :
    m.found seq .double pos e = { m with table := m.table.set pos { e with hits := satSucc 255 e.hits } } := by
  simp [Matcher.found, modify_eq_set _ h, Entry.hit]

/-- The test of the direction, by the last matched nominal (R138). -/
theorem wrongWay_iff {direction : Direction} {lastMatched : Option Int} {nominal : Int} :
    wrongWay direction lastMatched nominal = true ↔ ∃ last, lastMatched = some last ∧
      ((direction = .forward ∧ nominal < last) ∨ (direction = .reverse ∧ last < nominal)) := by
  cases lastMatched with
  | none => simp [wrongWay]
  | some last => cases direction <;> simp [wrongWay]

theorem entryResult_outOfOrder {direction : Direction} {last : Option Int} {e : Entry}
    (wrong : wrongWay direction last e.nominal = true) : entryResult direction last e = .outOfOrder := if_pos wrong

theorem entryResult_matched {direction : Direction} {last : Option Int} {e : Entry}
    (right : ¬ wrongWay direction last e.nominal = true) (fresh : e.hits = 0) :
    entryResult direction last e = .matched := by
  rw [entryResult, if_neg right, if_pos fresh]

theorem entryResult_double {direction : Direction} {last : Option Int} {e : Entry}
    (right : ¬ wrongWay direction last e.nominal = true) (hit : e.hits ≠ 0) :
    entryResult direction last e = .double := by
  rw [entryResult, if_neg right, if_neg hit]

theorem scanDirection_eq {s : State} {d : Descriptor} (h : s.scan.descriptor = some d) : s.scanDirection = d.direction := by
  rw [State.scanDirection, h]

/-- Settles O44: by the pre-check that stops the line, or the result of its lookup. -/
theorem linesAreMatched : Obligations.LinesAreMatched := by
  intro s q d descriptor law
  refine ⟨fun _ => rfl, fun state => matchLine_stopped (if_pos state) s, fun state valid => matchLine_stopped ?_ s,
    fun state valid fast => matchLine_stopped ?_ s, fun state valid slow => ?_⟩
  · simp [preCheck, state, valid]
  · simp [preCheck, state, valid, fast]
  rw [matchLine_lookedUp state valid slow]
  refine ⟨lookupLine_stray, fun pos e stands low high wrong hwrong => ?_⟩
  have found := law.findWindow stands low high
  have wrongIff : wrong ↔ wrongWay s.scanDirection s.matcher.lastMatched e.nominal = true := by
    rw [hwrong, scanDirection_eq descriptor, wrongWay_iff]
  rw [wrongIff]
  refine ⟨fun h => ?_, fun h fresh => ?_, fun h hit => ?_⟩
  · rw [lookupLine_found found (entryResult_outOfOrder h), Matcher.found_outOfOrder]
    rfl
  · rw [lookupLine_found found (entryResult_matched h fresh), Matcher.found_matched stands]
    rfl
  · rw [lookupLine_found found (entryResult_double h hit), Matcher.found_double stands]
    rfl

/-! ## TABLE INSERT -/

theorem switchOf_none {b : Byte} (h : 2 ≤ b.toNat) : switchOf b = none := by
  unfold switchOf
  rw [if_neg, if_neg]
  all_goals rintro rfl; exact absurd h (by decide)

theorem switchOf_some {b : Byte} (h : b.toNat ≤ 1) : switchOf b = some (b == 1) := by
  have codes : b = 0 ∨ b = 1 := by
    rcases Nat.le_one_iff_eq_zero_or_eq_one.mp h with h | h
    exacts [.inl (BitVec.eq_of_toNat_eq h), .inr (BitVec.eq_of_toNat_eq h)]
  rcases codes with rfl | rfl <;> rfl

/-- The ranges of a nominal and a half-window (R127). -/
theorem insertRanges_iff (nominal : Int) (halfWindow : Nat) :
    (inLengthRange nominal && decide (1 ≤ halfWindow) && decide ((halfWindow : Int) ≤ Config.halfWindowLimit)) = true ↔
      -140737488355327 ≤ nominal ∧ nominal ≤ 140737488355327 ∧ 1 ≤ halfWindow ∧ halfWindow ≤ 1000000000 := by
  have limit : (halfWindow : Int) ≤ Config.halfWindowLimit ↔ halfWindow ≤ 1000000000 := by
    rw [Config.halfWindowLimit]; omega
  rw [Bool.and_eq_true, Bool.and_eq_true, inLengthRange, decide_eq_true_iff, decide_eq_true_iff, decide_eq_true_iff, limit,
    and_assoc, and_assoc]
  rfl

theorem tableInsert_refused {s : State} {index : BitVec 16} {nominal : BitVec 64} {halfWindow : BitVec 32} {retained : Byte}
    (waits : s.Waits)
    (bad : 2 ≤ retained.toNat ∨ nominal.toInt < -140737488355327 ∨ 140737488355327 < nominal.toInt ∨ halfWindow.toNat = 0 ∨
      1000000000 < halfWindow.toNat) :
    exec (.tableInsert index nominal halfWindow retained) s = .next (s.answer 0x30 15 [0x10, 0, 0]) := by
  show execTableInsert index nominal halfWindow retained s = _
  rw [execTableInsert, answered (r := .keep s .badArgument (zeros 2)) waits ?_]
  · rfl
  by_cases code : 2 ≤ retained.toNat
  · rw [switchOf_none code]
  · rw [switchOf_some (by omega)]
    exact if_neg fun ranged => absurd ((insertRanges_iff _ _).mp ranged) (by omega)

theorem tableInsert_taken {s : State} {index : BitVec 16} {nominal : BitVec 64} {halfWindow : BitVec 32} {retained : Byte}
    {r : Reply} (waits : s.Waits) (code : retained.toNat ≤ 1) (low : -140737488355327 ≤ nominal.toInt)
    (high : nominal.toInt ≤ 140737488355327) (wide : 1 ≤ halfWindow.toNat) (narrow : halfWindow.toNat ≤ 1000000000)
    (reply : insertInto { index := index.toNat, nominal := nominal.toInt, halfWindow := halfWindow.toNat
                          retained := retained == 1, hits := 0, firstHit := none } s = r) :
    exec (.tableInsert index nominal halfWindow retained) s =
      .next (r.state.answer 0x30 15 (r.status.code :: r.data)) := by
  show execTableInsert index nominal halfWindow retained s = _
  rw [execTableInsert, answered (r := r) waits ?_]
  · rfl
  · rw [switchOf_some code]
    exact (if_pos ((insertRanges_iff _ _).mpr ⟨low, high, wide, narrow⟩)).trans reply

theorem insertInto_scanOpen {e : Entry} {s : State} (h : s.scanIsOpen = true) :
    insertInto e s = .keep s .scanOpen (zeros 2) := if_pos h

section Insertion

variable {e : Entry} {s : State}

theorem insertInto_full (idle : s.scanIsOpen = false) (full : 4096 ≤ s.matcher.table.length) :
    insertInto e s = .keep s .tableFull (zeros 2) := by
  rw [insertInto, idle, if_neg Bool.false_ne_true]
  exact if_pos full

theorem capacity_not_reached {table : List Entry} (room : table.length < 4096) :
    ¬ Config.tableCapacity ≤ table.length := Nat.not_le.mpr room

theorem insertInto_duplicate {pos : Nat} {h : Entry} (idle : s.scanIsOpen = false) (room : s.matcher.table.length < 4096)
    (found : findEntry (fun h => h.index == e.index) s.matcher.table = some (pos, h)) :
    insertInto e s = .keep s .duplicateIndex (beNat 2 pos) := by
  rw [insertInto, idle, if_neg Bool.false_ne_true, if_neg (capacity_not_reached room), found]

theorem insertInto_overlap {pos : Nat} {h : Entry} (idle : s.scanIsOpen = false) (room : s.matcher.table.length < 4096)
    (fresh : findEntry (fun h => h.index == e.index) s.matcher.table = none)
    (met : findEntry (fun h => e.meets h) s.matcher.table = some (pos, h)) :
    insertInto e s = .keep s .overlap (beNat 2 h.index) := by
  rw [insertInto, idle, if_neg Bool.false_ne_true, if_neg (capacity_not_reached room), fresh, met]

theorem insertInto_placed (idle : s.scanIsOpen = false) (room : s.matcher.table.length < 4096)
    (fresh : findEntry (fun h => h.index == e.index) s.matcher.table = none)
    (apart : findEntry (fun h => e.meets h) s.matcher.table = none) :
    insertInto e s =
      .ok (editTable (insertEntry e s.matcher.table) s) (beNat 2 (positionOf e.nominal s.matcher.table)) := by
  rw [insertInto, idle, if_neg Bool.false_ne_true, if_neg (capacity_not_reached room), fresh, apart]

end Insertion

theorem Entry.meets_iff {a b : Entry} :
    Entry.meets a b = true ↔
      a.nominal - a.halfWindow ≤ b.nominal + b.halfWindow ∧ b.nominal - b.halfWindow ≤ a.nominal + a.halfWindow :=
  decide_eq_true_iff

/-- In an ascending table an entry is placed behind those below it, which its position counts (R128). -/
theorem insertEntry_split {e : Entry} {table : List Entry} (sorted : table.Pairwise fun a b => a.nominal < b.nominal)
    (apart : ∀ x, x ∈ table → x.nominal ≠ e.nominal) :
    ∃ before after, table = before ++ after ∧ insertEntry e table = before ++ e :: after ∧
      positionOf e.nominal table = before.length := by
  induction table with
  | nil => exact ⟨[], [], rfl, rfl, rfl⟩
  | cons x rest ih =>
    obtain ⟨first, others⟩ := List.pairwise_cons.mp sorted
    rcases lt_or_gt_of_ne (apart x (List.mem_cons_self ..)) with below | above
    · obtain ⟨before, after, split, placed, position⟩ := ih others fun y hy => apart y (List.mem_cons_of_mem _ hy)
      refine ⟨x :: before, after, by rw [split]; rfl, ?_, ?_⟩
      · rw [insertEntry, if_neg (not_lt_of_gt below), placed]; rfl
      · rw [positionOf, List.countP_cons_of_pos (p := fun f : Entry => decide (f.nominal < e.nominal))
        (decide_eq_true below)]
        exact congrArg Nat.succ position
    · refine ⟨[], x :: rest, rfl, if_pos above, List.countP_eq_zero.mpr fun y hy => ?_⟩
      have higher : e.nominal < y.nominal := by
        rcases List.mem_cons.mp hy with rfl | later
        exacts [above, lt_trans above (first y later)]
      simpa using higher.le

/-- Settles O45: by the refusal that the state gives, or the place where the table is cut for the entry. -/
theorem insertionsKeepTheTable : Obligations.InsertionsKeepTheTable := by
  intro s index nominal halfWindow retained waits
  refine ⟨tableInsert_refused waits, fun code low high wide narrow => ?_⟩
  have taken {r : Reply} := tableInsert_taken (index := index) (r := r) waits code low high wide narrow
  refine ⟨fun isOpen => taken (insertInto_scanOpen isOpen), fun idle => ⟨fun full => taken (insertInto_full idle full),
    fun room law => ⟨fun pos h stands same => taken (insertInto_duplicate idle room (law.findIndex stands same)),
      fun fresh => ⟨fun pos h stands low' high' before => ?_, fun apart => ?_⟩⟩⟩⟩
  · refine taken (insertInto_overlap (pos := pos) (h := h) idle room (findIndex_none fresh)
      (findEntry_first stands (Entry.meets_iff.mpr ⟨low', high'⟩) fun k f hk hf => Bool.eq_false_iff.mpr fun met => ?_))
    exact absurd (before k f hk hf) (not_lt_of_ge (Entry.meets_iff.mp met).1)
  · have unmet : ∀ x, x ∈ s.matcher.table → Entry.meets
        { index := index.toNat, nominal := nominal.toInt, halfWindow := halfWindow.toNat
          retained := retained == 1, hits := 0, firstHit := none } x = false := by
      refine fun x hx => Bool.eq_false_iff.mpr fun met => ?_
      obtain ⟨met₁, met₂⟩ := Entry.meets_iff.mp met
      rcases apart x hx with h | h
      exacts [absurd met₁ (not_le_of_gt h), absurd met₂ (not_le_of_gt h)]
    obtain ⟨before, after, split, placed, position⟩ := insertEntry_split
      (e := { index := index.toNat, nominal := nominal.toInt, halfWindow := halfWindow.toNat
              retained := retained == 1, hits := 0, firstHit := none })
      (law.2.2.imp fun h => h.1) fun x hx same => by
        have window := apart x hx
        obtain ⟨-, -, positive, -, -⟩ := law.2.1 x hx
        dsimp only at same
        omega
    refine ⟨before, after, _, rfl, split, ?_, ?_⟩
    · rw [← placed]
      refine law.insert room ⟨?_, ?_, Int.ofNat_le.mpr wide, Int.ofNat_le.mpr narrow, Nat.zero_le _⟩ fresh unmet
      · exact Nat.le_of_lt_succ index.isLt
      · exact decide_eq_true ⟨low, high⟩
    · rw [taken (insertInto_placed idle room (findIndex_none fresh) (findEntry_none.mpr unmet)), placed, position]
      rfl

/-! ## TABLE DELETE, FLUSH and READ -/

/-- An entry is all that a filter by its index takes out of a lawful table (R129). -/
theorem TableLaw.filter_index {table : List Entry} {pos : Nat} {e : Entry} {index : Nat} (law : TableLaw table)
    (stands : table[pos]? = some e) (named : e.index = index) :
    (table.filter fun h => h.index != index) = table.eraseIdx pos := by
  have distinct : table.Pairwise fun a b => a.index ≠ b.index := law.2.2.imp fun h => h.2.2
  clear law
  subst named
  induction table generalizing pos with
  | nil => rfl
  | cons x rest ih =>
    obtain ⟨first, others⟩ := List.pairwise_cons.mp distinct
    cases pos with
    | zero =>
      obtain rfl : x = e := by simpa using stands
      rw [List.filter_cons_of_neg (by simp)]
      exact List.filter_eq_self.mpr fun y hy => bne_iff_ne.mpr (first y hy).symm
    | succ pos =>
      have later : rest[pos]? = some e := by simpa using stands
      rw [List.filter_cons_of_pos (p := fun h : Entry => h.index != e.index)
        (bne_iff_ne.mpr (first e (List.mem_of_getElem? later))), ih later others]
      rfl

section Deletion

variable {s : State} {index : BitVec 16} {force : Byte}

theorem tableDelete_badArgument (waits : s.Waits) (h : 2 ≤ force.toNat) :
    exec (.tableDelete index force) s = .next (s.answer 0x31 3 [0x10, 0, 0]) := by
  show execTableDelete index force s = _
  rw [execTableDelete, answered (r := .keep s .badArgument (zeros 2)) waits (by rw [switchOf_none h])]
  rfl

theorem tableDelete_scanOpen (waits : s.Waits) (code : force.toNat ≤ 1) (h : s.scanIsOpen = true) :
    exec (.tableDelete index force) s = .next (s.answer 0x31 3 [0x12, 0, 0]) := by
  show execTableDelete index force s = _
  rw [execTableDelete, answered (r := .keep s .scanOpen (zeros 2)) waits (by rw [switchOf_some code]; exact if_pos h)]
  rfl

theorem tableDelete_notFound (waits : s.Waits) (code : force.toNat ≤ 1) (idle : s.scanIsOpen = false)
    (h : ∀ e, e ∈ s.matcher.table → e.index ≠ index.toNat) :
    exec (.tableDelete index force) s = .next (s.answer 0x31 3 [0x23, 0, 0]) := by
  show execTableDelete index force s = _
  rw [execTableDelete, answered (r := .keep s .notFound (zeros 2)) waits
    (by rw [switchOf_some code, idle, findIndex_none h]; rfl)]
  rfl

theorem tableDelete_retained {pos : Nat} {e : Entry} (waits : s.Waits) (idle : s.scanIsOpen = false)
    (found : findEntry (fun h => h.index == index.toNat) s.matcher.table = some (pos, e)) (kept : e.retained = true)
    (unforced : force = 0) : exec (.tableDelete index force) s = .next (s.answer 0x31 3 [0x24, 0, 0]) := by
  subst unforced
  have unforced : (e.retained && !((0 : Byte) == 1)) = true := by rw [kept]; rfl
  show execTableDelete index 0 s = _
  rw [execTableDelete, answered (r := .keep s .retained (zeros 2)) waits
    (by rw [switchOf_some (by decide), idle, found]; exact if_pos unforced)]
  rfl

theorem tableDelete_removed {pos : Nat} {e : Entry} (waits : s.Waits) (code : force.toNat ≤ 1) (idle : s.scanIsOpen = false)
    (found : findEntry (fun h => h.index == index.toNat) s.matcher.table = some (pos, e))
    (free : e.retained = false ∨ force = 1) :
    exec (.tableDelete index force) s =
      .next ((editTable (s.matcher.table.filter fun h => h.index != index.toNat) s).answer 0x31 3 (0x00 :: be 2 pos)) := by
  have unkept : (e.retained && !(force == 1)) ≠ true := by
    rcases free with h | h
    · simp [h]
    · simp [h]
  show execTableDelete index force s = _
  rw [execTableDelete,
    answered (r := .ok (editTable (s.matcher.table.filter fun h => h.index != index.toNat) s) (beNat 2 pos)) waits
      (by rw [switchOf_some code, idle, found]; exact if_neg unkept)]
  rfl

end Deletion

/-- What a flush that is taken answers. -/
def flushReply (option : Byte) (s : State) : Reply :=
  let kept := s.matcher.table.filter fun e => e.retained && !(option == 1)
  let removed := s.matcher.table.length - kept.length
  .ok (if removed = 0 then s else editTable kept s) (beNat 2 removed ++ beNat 2 kept.length)

/-- The flush of a table, by what it keeps (R130). -/
theorem tableFlush_taken {s : State} {option : Byte} (waits : s.Waits) (code : option.toNat ≤ 1)
    (idle : s.scanIsOpen = false) {kept : List Entry}
    (hkept : (s.matcher.table.filter fun e => e.retained && !(option == 1)) = kept) :
    exec (.tableFlush option) s =
      .next ((if s.matcher.table.length - kept.length = 0 then s else editTable kept s).answer 0x32 1
        (0x00 :: (beNat 2 (s.matcher.table.length - kept.length) ++ beNat 2 kept.length))) := by
  subst hkept
  show execTableFlush option s = _
  rw [execTableFlush, answered (r := flushReply option s) waits
    (by rw [switchOf_some code]; exact if_neg (ne_true_of_eq_false idle))]
  rfl

theorem flush_keeps (option : Byte) (table : List Entry) :
    (table.filter fun e => e.retained && !(option == 1)) =
      if option = 1 then [] else table.filter fun e => e.retained := by
  by_cases all : option = 1
  · rw [if_pos all]
    exact List.filter_eq_nil_iff.mpr fun e _ => by simp [all]
  · rw [if_neg all]
    exact List.filter_congr fun e _ => by rw [beq_eq_false_iff_ne.mpr all, Bool.not_false, Bool.and_true]

/-- A flush that keeps every entry keeps the table and the cursor; any other leaves the cursor absent (R130). -/
theorem flushed_eq {s : State} (keep : Entry → Bool) {kept : List Entry} (hkept : s.matcher.table.filter keep = kept) :
    (if s.matcher.table.length - kept.length = 0 then s else editTable kept s) =
      { s with
        matcher :=
          { s.matcher with
            table := kept
            cursor := if kept.length = s.matcher.table.length then s.matcher.cursor else none } } := by
  have fewer : kept.length ≤ s.matcher.table.length := hkept ▸ List.length_filter_le _ _
  by_cases all : kept.length = s.matcher.table.length
  · have same : kept = s.matcher.table := by
      subst hkept
      exact List.filter_eq_self.mpr (List.length_filter_eq_length_iff.mp all)
    rw [if_pos all, if_pos (by omega), same]
  · rw [if_neg all, if_neg (by omega)]
    rfl

section Reading

variable {s : State} {mode : Byte} {key : BitVec 16}

theorem tableRead_badArgument (waits : s.Waits) (bad : 2 ≤ mode.toNat ∨ (mode = 0 ∧ 4096 ≤ key.toNat)) :
    exec (.tableRead mode key) s = .next (s.answer 0x33 3 (0x10 :: List.replicate 25 0)) := by
  show execTableRead mode key s = _
  rw [execTableRead, answered (r := .keep s .badArgument (zeros 25)) waits ?_]
  · rfl
  rcases bad with code | ⟨rfl, beyond⟩
  · rw [switchOf_none code]
  · rw [switchOf_some (by decide)]
    exact if_pos (decide_eq_true (p := Config.tableCapacity ≤ key.toNat) beyond)

theorem tableRead_looked {r : Reply} (waits : s.Waits) (code : mode.toNat ≤ 1) (within : mode = 0 → key.toNat < 4096)
    (reply : (match readEntry (mode == 1) key.toNat s.matcher.table with
      | none => .keep s .notFound (zeros 25)
      | some (pos, e) => .keep s .ok (entryBytes pos e s.matcher.table.length)) = r) :
    exec (.tableRead mode key) s = .next (r.state.answer 0x33 3 (r.status.code :: r.data)) := by
  have passed : ¬ ((!(mode == 1) && decide (Config.tableCapacity ≤ key.toNat)) = true) := by
    rw [Bool.and_eq_true, Bool.not_eq_true', beq_eq_false_iff_ne]
    rintro ⟨named, beyond⟩
    refine absurd (within (BitVec.eq_of_toNat_eq ?_)) (Nat.not_lt.mpr (of_decide_eq_true beyond))
    rcases Nat.le_one_iff_eq_zero_or_eq_one.mp code with h | h
    exacts [h, absurd (BitVec.eq_of_toNat_eq h) named]
  show execTableRead mode key s = _
  rw [execTableRead, answered (r := r) waits (by rw [switchOf_some code]; exact (if_neg passed).trans reply)]
  rfl

theorem tableRead_notFound (waits : s.Waits) (code : mode.toNat ≤ 1) (within : mode = 0 → key.toNat < 4096)
    (missed : readEntry (mode == 1) key.toNat s.matcher.table = none) :
    exec (.tableRead mode key) s = .next (s.answer 0x33 3 (0x23 :: List.replicate 25 0)) :=
  tableRead_looked (r := .keep s .notFound (zeros 25)) waits code within (by rw [missed])

theorem tableRead_found {pos : Nat} {e : Entry} (waits : s.Waits) (code : mode.toNat ≤ 1)
    (within : mode = 0 → key.toNat < 4096) (found : readEntry (mode == 1) key.toNat s.matcher.table = some (pos, e)) :
    exec (.tableRead mode key) s =
      .next (s.answer 0x33 3 (0x00 :: entryBytes pos e s.matcher.table.length)) :=
  tableRead_looked (r := .keep s .ok (entryBytes pos e s.matcher.table.length)) waits code within (by rw [found])

end Reading

theorem entryBytes_eq (pos : Nat) (e : Entry) (total : Nat) :
    entryBytes pos e total =
      be 2 pos ++ be 2 e.index ++ be 8 e.nominal ++ be 4 e.halfWindow ++ [if e.retained then 1 else 0]
        ++ be 1 e.hits ++ (match e.firstHit with
          | none => [0, 0, 0, 0, 0]
          | some q => 1 :: be 4 q.toNat) ++ be 2 total := by
  have flag : beBool e.retained = [if e.retained then 1 else 0] := by cases e.retained <;> rfl
  have first : beOption 4 (e.firstHit.map fun q => (q.toNat : Int)) =
      (match e.firstHit with
        | none => [0, 0, 0, 0, 0]
        | some q => 1 :: be 4 q.toNat) := by cases e.firstHit <;> rfl
  rw [entryBytes, flag, first]
  rfl

/-- Settles O46: by the refusals of each command, and by the entry that its index or position names. -/
theorem tableCommandsAreAnswered : Obligations.TableCommandsAreAnswered := by
  refine ⟨fun s index force waits => ⟨tableDelete_badArgument waits, fun code => ⟨tableDelete_scanOpen waits code,
    fun idle => ⟨tableDelete_notFound waits code idle, fun law pos e stands named => ?_⟩⟩⟩,
    fun s option waits => ⟨fun code => ?_, fun code => ⟨fun isOpen => ?_, fun idle kept hkept => ?_⟩⟩,
    fun s mode key waits => ⟨tableRead_badArgument waits, fun position within beyond => ?_, fun byIndex unknown => ?_,
      fun law pos e stands named => ?_⟩⟩
  · have found := law.findIndex stands named
    refine ⟨tableDelete_retained waits idle found, fun free => ?_⟩
    rw [tableDelete_removed waits code idle found free, law.filter_index stands named]
    rfl
  · show execTableFlush option s = _
    rw [execTableFlush, answered (r := .keep s .badArgument (zeros 4)) waits (by rw [switchOf_none code])]
    rfl
  · show execTableFlush option s = _
    rw [execTableFlush, answered (r := .keep s .scanOpen (zeros 4)) waits
      (by rw [switchOf_some code]; exact if_pos isOpen)]
    rfl
  · have keeps := (flush_keeps option s.matcher.table).trans hkept.symm
    have fewer : kept.length ≤ s.matcher.table.length := keeps ▸ List.length_filter_le _ _
    rw [tableFlush_taken waits code idle keeps, flushed_eq _ keeps, ← Int.ofNat_sub fewer]
    rfl
  · subst position
    exact tableRead_notFound waits (by decide) (fun _ => within) (by simp [readEntry, beyond])
  · subst byIndex
    exact tableRead_notFound waits (by decide) nofun (findIndex_none unknown)
  · have run : exec (.tableRead mode key) s =
        .next (s.answer 0x33 3 (0x00 :: entryBytes pos e s.matcher.table.length)) := by
      rcases named with ⟨rfl, rfl, within⟩ | ⟨rfl, named⟩
      · exact tableRead_found waits (by decide) (fun _ => within) (by simp [readEntry, stands])
      · exact tableRead_found waits (by decide) nofun (law.findIndex stands named)
    exact run.trans (by rw [entryBytes_eq] <;> rfl)

end Sys2Proof.Machine
end

section
/-! PROOFS. Scans and the carriage hold: SCAN OPEN, the end of a scan, and what the gate reports do (R133, R143, R147 to
R152, R155, R160, R161, R164). -/

namespace Sys2Proof.Machine

/-! ## SCAN OPEN -/

theorem lineOf_of_number {b : Byte} {line : LineInput} (h : b.toNat = lineNumber line) : lineOf b = some line := by
  have named : ∀ code : Byte, lineNumber line = code.toNat → b = code := fun code hc =>
    BitVec.eq_of_toNat_eq (Int.ofNat_inj.mp (h.trans hc))
  cases line
  case line0 => rw [named 0 rfl]; rfl
  case line1 => rw [named 1 rfl]; rfl

theorem lineOf_none {b : Byte} (h : 2 ≤ b.toNat) : lineOf b = none := by
  unfold lineOf
  rw [if_neg, if_neg]
  all_goals rintro rfl; exact absurd h (by decide)

theorem directionOf_of_number {b : Byte} {direction : Direction} (h : b.toNat = direction.number) :
    directionOf b = some direction := by
  have named : ∀ code : Byte, direction.number = code.toNat → b = code := fun code hc =>
    BitVec.eq_of_toNat_eq (Int.ofNat_inj.mp (h.trans hc))
  cases direction
  case forward => rw [named 0 rfl]; rfl
  case reverse => rw [named 1 rfl]; rfl

theorem directionOf_none {b : Byte} (h : 2 ≤ b.toNat) : directionOf b = none := by
  unfold directionOf
  rw [if_neg, if_neg]
  all_goals rintro rfl; exact absurd h (by decide)

/-- Arguments that SCAN OPEN refuses spell no descriptor (R147). -/
theorem descriptorOf_none {id axis line direction : Byte} {start stop : BitVec 64}
    (bad : id = 0 ∨ 4 ≤ axis.toNat ∨ 2 ≤ line.toNat ∨ 2 ≤ direction.toNat ∨ inLengthRange start.toInt = false ∨
      inLengthRange stop.toInt = false) : descriptorOf id axis line direction start stop = none := by
  unfold descriptorOf
  split
  next j l r hj hl hr =>
    refine if_neg fun ⟨named, inStart, inStop⟩ => ?_
    rcases bad with rfl | far | far | far | out | out
    · exact absurd named (by decide)
    · exact Option.some_ne_none _ (hj.symm.trans (memberOf_none far))
    · exact Option.some_ne_none _ (hl.symm.trans (lineOf_none far))
    · exact Option.some_ne_none _ (hr.symm.trans (directionOf_none far))
    · exact Bool.false_ne_true (out.symm.trans inStart)
    · exact Bool.false_ne_true (out.symm.trans inStop)
  next => rfl

/-- The arguments of a descriptor spell it (R147). -/
theorem descriptorOf_some {id axis line direction : Byte} {start stop : BitVec 64} {d : Descriptor} (named : 1 ≤ d.id)
    (hid : id.toNat = d.id) (haxis : axis.toNat = d.axis) (hline : line.toNat = lineNumber d.line)
    (hdirection : direction.toNat = d.direction.number) (hstart : start.toInt = d.start) (hstop : stop.toInt = d.stop)
    (inStart : inLengthRange d.start = true) (inStop : inLengthRange d.stop = true) :
    descriptorOf id axis line direction start stop = some d := by
  rw [descriptorOf, memberOf_of_toNat haxis, lineOf_of_number hline, directionOf_of_number hdirection, hid, hstart, hstop]
  exact if_pos ⟨named, inStart, inStop⟩

section Opening

variable {id axis line direction : Byte} {start stop : BitVec 64} {s : State} {d : Descriptor}

theorem scanOpen_badArgument (waits : s.Waits) (h : descriptorOf id axis line direction start stop = none) :
    exec (.scanOpen id axis line direction start stop) s = .next (s.answer 0x40 20 [0x10]) := by
  show execScanOpen id axis line direction start stop s = _
  rw [execScanOpen, answered (r := .keep s .badArgument) waits (by rw [h])]
  rfl

theorem scanOpen_refused {status : Status} (waits : s.Waits) (h : descriptorOf id axis line direction start stop = some d)
    (refused : scanRefusal d s = some status) :
    exec (.scanOpen id axis line direction start stop) s = .next (s.answer 0x40 20 [status.code]) := by
  show execScanOpen id axis line direction start stop s = _
  rw [execScanOpen, answered (r := .keep s status) waits (by simp only [h, refused])]
  rfl

theorem scanOpen_taken (waits : s.Waits) (h : descriptorOf id axis line direction start stop = some d)
    (taken : scanRefusal d s = none) :
    exec (.scanOpen id axis line direction start stop) s = .next ((openScanWith d s).answer 0x40 20 [0x00]) := by
  show execScanOpen id axis line direction start stop s = _
  rw [execScanOpen, answered (r := .ok (openScanWith d s)) waits (by simp only [h, taken])]
  rfl

/-! The tests of SCAN OPEN in their order (R147): each refuses where those before it pass. -/

/-- Start and stop do not lie in the direction of the scan. -/
def Descriptor.Backward (d : Descriptor) : Prop :=
  (d.direction = .forward ∧ ¬d.start < d.stop) ∨ (d.direction = .reverse ∧ ¬d.stop < d.start)

theorem scanRefusal_busy (h : s.scan.state ≠ .idle) : scanRefusal d s = some .scanBusy := if_pos h

theorem scanRefusal_badRange (idle : s.scan.state = .idle) (h : d.Backward) : scanRefusal d s = some .badRange := by
  rw [scanRefusal, if_neg (not_not.mpr idle)]
  exact if_pos h

theorem scanRefusal_axis (idle : s.scan.state = .idle) (ordered : ¬ d.Backward)
    (h : (s.axes.get d.axis).state ≠ .referenced) :
    scanRefusal d s = some .axisNotReferenced := by
  rw [scanRefusal, if_neg (not_not.mpr idle)]
  exact (if_neg ordered).trans (if_pos h)

theorem scanRefusal_lock (idle : s.scan.state = .idle) (ordered : ¬ d.Backward)
    (referenced : (s.axes.get d.axis).state = .referenced) (h : s.effectiveLock ≠ .locked) :
    scanRefusal d s = some .notLocked := by
  rw [scanRefusal, if_neg (not_not.mpr idle), referenced]
  exact (if_neg ordered).trans ((if_neg (not_not.mpr rfl)).trans (if_pos h))

theorem scanRefusal_env (idle : s.scan.state = .idle) (ordered : ¬ d.Backward)
    (referenced : (s.axes.get d.axis).state = .referenced) (locked : s.effectiveLock = .locked)
    (h : s.refr.env = .stale ∧ s.refr.vacuumInForce = false) : scanRefusal d s = some .envStale := by
  rw [scanRefusal, if_neg (not_not.mpr idle), referenced, locked]
  exact (if_neg ordered).trans ((if_neg (not_not.mpr rfl)).trans ((if_neg (not_not.mpr rfl)).trans (if_pos h)))

theorem scanRefusal_none (idle : s.scan.state = .idle) (ordered : ¬ d.Backward)
    (referenced : (s.axes.get d.axis).state = .referenced) (locked : s.effectiveLock = .locked)
    (h : ¬ (s.refr.env = .stale ∧ s.refr.vacuumInForce = false)) : scanRefusal d s = none := by
  rw [scanRefusal, if_neg (not_not.mpr idle), referenced, locked]
  exact (if_neg ordered).trans ((if_neg (not_not.mpr rfl)).trans ((if_neg (not_not.mpr rfl)).trans (if_neg h)))

end Opening

theorem effectiveLock_locked {s : State} :
    s.effectiveLock = .locked ↔ s.lock.state = .locked ∨ s.params.lockOverride = true := by
  unfold State.effectiveLock
  cases s.params.lockOverride <;> simp

/-- Settles O47: by the descriptor that the arguments spell, and the first test that refuses it. -/
theorem scansAreOpened : Obligations.ScansAreOpened := by
  refine ⟨fun s id axis line direction start stop waits bad => scanOpen_badArgument waits (descriptorOf_none bad),
    fun s id axis line direction start stop d waits named hid haxis hline hdirection hstart hstop inStart inStop => ?_⟩
  have spelt := descriptorOf_some named hid haxis hline hdirection hstart hstop inStart inStop
  refine ⟨fun busy => scanOpen_refused waits spelt (scanRefusal_busy busy),
    fun idle => ⟨fun backward => ?_, fun forward => ?_⟩⟩
  · exact scanOpen_refused waits spelt (scanRefusal_badRange idle
      (backward.imp (And.imp_right not_lt_of_ge) (And.imp_right not_lt_of_ge)))
  · have ordered : ¬ d.Backward := by
      rcases forward with ⟨way, lt⟩ | ⟨way, lt⟩ <;> simp [Descriptor.Backward, way, lt]
    refine ⟨fun unreferenced => scanOpen_refused waits spelt (scanRefusal_axis idle ordered unreferenced),
      fun referenced unlocked unforced => ?_, fun referenced locked => ⟨fun stale air => ?_, fun fresh => ?_⟩⟩
    · refine scanOpen_refused waits spelt (scanRefusal_lock idle ordered referenced fun locked => ?_)
      rcases effectiveLock_locked.mp locked with h | h
      exacts [unlocked h, Bool.false_ne_true (unforced.symm.trans h)]
    · exact scanOpen_refused waits spelt
        (scanRefusal_env idle ordered referenced (effectiveLock_locked.mpr locked) ⟨stale, air⟩)
    · refine scanOpen_taken waits spelt (scanRefusal_none idle ordered referenced (effectiveLock_locked.mpr locked) ?_)
      rintro ⟨stale, air⟩
      rcases fresh with h | h
      exacts [EnvState.noConfusion (h.symm.trans stale), Bool.false_ne_true (air.symm.trans h)]

/-! ## The end of a scan -/

theorem inScanRange_iff (d : Descriptor) (nominal : Int) :
    inScanRange d nominal = true ↔ (d.direction = .forward ∧ d.start ≤ nominal ∧ nominal ≤ d.stop) ∨
      (d.direction = .reverse ∧ d.stop ≤ nominal ∧ nominal ≤ d.start) := by
  unfold inScanRange
  split <;> rename_i way <;> simp [way]

theorem missedCount_eq (d : Descriptor) (table : List Entry) :
    missedCount d table = table.countP (fun e =>
      decide (e.hits = 0 ∧
        ((d.direction = .forward ∧ d.start ≤ e.nominal ∧ e.nominal ≤ d.stop) ∨
          (d.direction = .reverse ∧ d.stop ≤ e.nominal ∧ e.nominal ≤ d.start)))) := by
  refine List.countP_congr fun e _ => ?_
  rw [Bool.and_eq_true, inScanRange_iff, beq_iff_eq, decide_eq_true_iff, and_comm]

theorem EndCause.state_eq (cause : EndCause) :
    cause.state = if cause = .stopReached ∨ cause = .closed then ScanState.idle else ScanState.aborted := by
  cases cause <;> rfl

theorem Capture.endScan_inside {q : Capture} {input : LineInput} {j : Fin 4} (h : q.kind = .line input (.inside j)) :
    q.endScan = { q with kind := .line input (.scanEnded j) } := by rw [Capture.endScan, h]

theorem Capture.endScan_other {q : Capture} (h : ¬ ∃ input j, q.kind = .line input (.inside j)) : q.endScan = q := by
  unfold Capture.endScan
  split
  next input j hk => exact absurd ⟨input, j, hk⟩ h
  next => rfl

/-- The first steps of an end, the state with the inside captures marked (R151). -/
theorem closeScan_eq (d : Descriptor) (cause : EndCause) (s : State) :
    closeScan d cause s = { s with
      scan :=
        { s.scan with
          state := if cause = .stopReached ∨ cause = .closed then ScanState.idle else ScanState.aborted
          endCause := some cause, missed := some (missedCount d s.matcher.table) }
      slots := s.slots.set d.axis
        (if (s.slots.get d.axis).state = SlotState.deferred then
          { s.slots.get d.axis with state := SlotState.armed, age := 0 }
        else s.slots.get d.axis)
      capture := { s.capture with inFlight := (closeScan d cause s).capture.inFlight } } := by
  rw [← EndCause.state_eq]
  rfl

theorem scanClear_aborted {s : State} (waits : s.Waits) (h : s.scan.state = .aborted) :
    exec .scanClear s = .next (({ s with scan := { s.scan with state := .idle } }).answer 0x42 0 [0x00]) :=
  (answered waits (if_pos h) : execScanClear s = _)

theorem scanClear_other {s : State} (waits : s.Waits) (h : s.scan.state ≠ .aborted) :
    exec .scanClear s = .next (s.answer 0x42 0 [0x15]) :=
  (answered waits (if_neg h) : execScanClear s = _)

theorem scanIsOpen_of_openScan {s : State} {d : Descriptor} (h : s.openScan = some d) : s.scanIsOpen = true := by
  by_contra idle
  rw [State.openScan, if_neg idle] at h
  exact Option.some_ne_none _ h.symm

theorem not_scanIsOpen {s : State} (h : s.scan.state = .idle ∨ s.scan.state = .aborted) : ¬ s.scanIsOpen = true := by
  rcases h with h | h <;> simp [State.scanIsOpen, h]

/-- Settles O48: the end of a scan is its closing, the acceptance of its capture and the raise of SCAN_ENDED. -/
theorem scansEnd : Obligations.ScansEnd := by
  refine ⟨fun s d cause isOpen => ?_,
    fun s d waits isOpen => (answered waits (if_pos (scanIsOpen_of_openScan isOpen)) : execScanClose s = _),
    fun s waits idle => (answered waits (if_neg (not_scanIsOpen idle)) : execScanClose s = _),
    fun s waits => scanClear_aborted waits, fun s waits => scanClear_other waits⟩
  have marked (k : Nat) (q : Capture) (h : s.capture.inFlight[k]? = some q) :
      (closeScan d cause s).capture.inFlight[k]? = some q.endScan := by
    simp [closeScan, h]
  refine ⟨missedCount d s.matcher.table, closeScan d cause s, _, missedCount_eq d _, closeScan_eq d cause s,
    by simp [closeScan], fun k q h => ⟨fun input j inside => ?_, fun other => ?_⟩, acceptCapture_accepted _ _ _,
    endScan_some isOpen⟩
  · rw [marked k q h, Capture.endScan_inside inside]
  · rw [marked k q h, Capture.endScan_other other]

/-! ## Gate reports -/

theorem exec_scanReport {s : State} {i : Instr} {r : GateReport} (row : i = .scanActive ∨ i = .stopReached)
    (high : s.resetLow = false) (due : s.due.scan = some r) :
    exec i s = .next (testScan r { s with due := { s.due with scan := none } }) := by
  have taken : live s takeScanReport = .next (testScan r { s with due := { s.due with scan := none } }) := by
    rw [live_of_high high, takeScanReport, due]
  rcases row with rfl | rfl
  exacts [taken, taken]

theorem startReached_iff (d : Descriptor) (value : Int) :
    startReached d value = true ↔
      (d.direction = .forward ∧ d.start ≤ value) ∨ (d.direction = .reverse ∧ value ≤ d.start) := by
  unfold startReached
  split <;> rename_i way <;> simp [way]

theorem stopPassed_iff (d : Descriptor) (value : Int) :
    stopPassed d value = true ↔
      (d.direction = .forward ∧ d.stop < value) ∨ (d.direction = .reverse ∧ value < d.stop) := by
  unfold stopPassed
  split <;> rename_i way <;> simp [way]

/-- In neither direction both tests hold. -/
theorem not_ahead {direction : Direction} {a b : Int} (h : (direction = .forward ∧ a < b) ∨ (direction = .reverse ∧ b < a)) :
    ¬ ((direction = .forward ∧ b ≤ a) ∨ (direction = .reverse ∧ a ≤ b)) := by
  rcases h with ⟨rfl, lt⟩ | ⟨rfl, lt⟩ <;> simpa using lt

section ScanTests

variable {s : State} {r : GateReport} {d : Descriptor}

theorem testScan_closed (h : s.scan.state = .idle ∨ s.scan.state = .aborted) : testScan r s = s := by
  unfold testScan
  split
  · rfl
  · rcases h with h | h <;> rw [h]

theorem testScan_armed (descriptor : s.scan.descriptor = some d) (armed : s.scan.state = .armed) :
    testScan r s =
      if startReached d (r.axes.get d.axis).value then
        { s with scan := { s.scan with state := .active, gateAtActive := some r.gate } }
      else s := by
  simp only [testScan, descriptor, armed]

theorem testScan_active (descriptor : s.scan.descriptor = some d) (active : s.scan.state = .active) :
    testScan r s = if stopPassed d (r.axes.get d.axis).value then endScan .stopReached s else s := by
  simp only [testScan, descriptor, active]

end ScanTests

/-- Settles O49: by the state of the scan and the test that its axis value passes or not. -/
theorem gateReportsMoveTheScan : Obligations.GateReportsMoveTheScan := by
  rintro s i r u row high due rfl
  rw [exec_scanReport row high due]
  refine ⟨fun closed => congrArg Host.Outcome.next (testScan_closed closed), fun d descriptor =>
    ⟨fun armed => ?_, fun active => ?_⟩⟩
  · rw [testScan_armed (s := { s with due := { s.due with scan := none } }) descriptor armed]
    refine ⟨fun reached => congrArg Host.Outcome.next (if_pos ((startReached_iff d _).mpr reached)), fun short => ?_⟩
    exact congrArg Host.Outcome.next (if_neg (mt (startReached_iff d _).mp (not_ahead (short.imp id id))))
  · rw [testScan_active (s := { s with due := { s.due with scan := none } }) descriptor active]
    refine ⟨fun passed => congrArg Host.Outcome.next (if_pos ((stopPassed_iff d _).mpr passed)), fun short => ?_⟩
    refine congrArg Host.Outcome.next (if_neg (mt (stopPassed_iff d _).mp fun passed => not_ahead passed ?_))
    exact short

/-! ## The carriage hold -/

section HoldTests

variable {s : State}

theorem holdCompare_run (h : s.hold.state = .run) :
    holdCompare s =
      if s.params.highWater ≤ s.main.records.length then
        { s with hold := { state := .holdPending, age := 0, unseen := false } }
      else s := by simp only [holdCompare, h]

theorem holdCompare_holdPending (h : s.hold.state = .holdPending) :
    holdCompare s =
      if s.main.records.length ≤ s.params.lowWater then { s with hold := { s.hold with state := .run } } else s := by
  simp only [holdCompare, h]

theorem holdCompare_holding (h : s.hold.state = .holding) :
    holdCompare s =
      if s.main.records.length ≤ s.params.lowWater then { s with hold := { s.hold with state := .releasePending } }
      else s := by simp only [holdCompare, h]

theorem holdCompare_releasePending (h : s.hold.state = .releasePending) :
    holdCompare s =
      if s.params.highWater ≤ s.main.records.length then { s with hold := { s.hold with state := .holding } } else s := by
  simp only [holdCompare, h]

theorem svHold_iff : s.svHold = true ↔ s.hold.state = .holdPending ∨ s.hold.state = .holding := by
  simp [State.svHold]

theorem countHoldReport_other (h : s.hold.state ≠ .holdPending) : countHoldReport s = s := if_neg h

theorem countHoldReport_counted {age : Nat} (pending : s.hold.state = .holdPending)
    (counted : satSucc 65535 s.hold.age = age) (h : ¬ (s.params.holdTimeout ≤ age ∧ s.hold.unseen = false)) :
    countHoldReport s = { s with hold := { s.hold with age := age } } := by
  subst counted
  rw [countHoldReport, if_pos pending]
  exact if_neg h

theorem countHoldReport_unseen {age : Nat} (pending : s.hold.state = .holdPending)
    (counted : satSucc 65535 s.hold.age = age) (h : s.params.holdTimeout ≤ age ∧ s.hold.unseen = false) :
    countHoldReport s = raise .holdUnseen { s with hold := { s.hold with age := age, unseen := true } } := by
  subst counted
  rw [countHoldReport, if_pos pending]
  exact if_pos h

end HoldTests

theorem exec_holdUnseen {s : State} (high : s.resetLow = false) (due : s.due.hold = true) :
    exec .holdUnseen s = .next (countHoldReport { s with due := { s.due with hold := false } }) := by
  show live s takeHoldReport = _
  rw [live_of_high high, takeHoldReport, if_pos due]

/-- Settles O50: by the state of the hold, and by the age that the report brings. -/
theorem theHoldFollowsTheFill : Obligations.TheHoldFollowsTheFill := by
  refine ⟨fun s => ⟨svHold_iff, fun h => ?_, fun h => ?_, fun h => ?_, fun h => ?_⟩, ?_⟩
  · rw [holdCompare_run h]
    exact ⟨fun reached => if_pos reached, fun below => if_neg (not_le_of_gt below)⟩
  · rw [holdCompare_holdPending h]
    exact ⟨fun reached => if_pos reached, fun above => if_neg (not_le_of_gt above)⟩
  · rw [holdCompare_holding h]
    exact ⟨fun reached => if_pos reached, fun above => if_neg (not_le_of_gt above)⟩
  · rw [holdCompare_releasePending h]
    exact ⟨fun reached => if_pos reached, fun below => if_neg (not_le_of_gt below)⟩
  · rintro s age u high due hage rfl
    have counted : satSucc 65535 s.hold.age = age := hage.symm
    rw [exec_holdUnseen high due]
    refine ⟨fun other => congrArg Host.Outcome.next (countHoldReport_other other), fun pending early => ?_,
      fun pending late unseen => congrArg Host.Outcome.next (countHoldReport_unseen pending counted ⟨late, unseen⟩)⟩
    refine congrArg Host.Outcome.next (countHoldReport_counted pending counted fun ⟨late, unseen⟩ => ?_)
    rcases early with h | h
    exacts [absurd late (not_le_of_gt h), Bool.false_ne_true (unseen.symm.trans h)]

end Sys2Proof.Machine
end

section
/-! PROOFS. The servo link: what a SYNC latches, what a completion does, and the bytes of a frame (R63, R73, R162, R184 to
R187). -/

namespace Sys2Proof.Machine

/-! ## The frame that a SYNC latches -/

theorem allTracking_false_iff (s : State) (j : Fin 4) :
    s.allTracking j = false ↔ ∃ c, weighted s.params j c = true ∧ (s.channels.get c).state ≠ .tracking := by
  have some_other : s.allTracking j = !indices.any fun c =>
      weighted s.params j c && (s.channels.get c).state != .tracking := by
    simp [State.allTracking, List.not_any_eq_all_not, bne]
  rw [some_other, Bool.not_eq_false', any_indices]
  simp

theorem channelHold_iff (s : State) (j : Fin 4) :
    s.channelHold j = true ↔ (s.axes.get j).state ≠ .undefined ∧
      ∃ c, weighted s.params j c = true ∧ (s.channels.get c).state ≠ .tracking := by
  rw [State.channelHold, Bool.and_eq_true, bne_iff_ne, Bool.not_eq_true', allTracking_false_iff]

theorem scanIsOpen_iff (s : State) : s.scanIsOpen = true ↔ s.scan.state = .armed ∨ s.scan.state = .active := by
  simp [State.scanIsOpen]

/-- The wrapped value is signed in 32 bits and the value modulo 2^32 (R63). -/
theorem wrap32_spec (v : Int) : -2147483648 ≤ wrap32 v ∧ wrap32 v ≤ 2147483647 ∧ (wrap32 v - v) % 4294967296 = 0 := by
  unfold wrap32
  omega

/-- The floor of a quotient by a positive unit (R63). -/
theorem ediv_bounds (a : Int) {unit : Int} (h : 0 < unit) : a / unit * unit ≤ a ∧ a < (a / unit + 1) * unit :=
  ⟨Int.ediv_mul_le a h.ne', Int.lt_ediv_add_one_mul_self a h⟩

theorem frameNow_slot (s : State) (i : Fin 4) : (frameNow s).slots.get i = frameSlot s (s.params.servoMap.get i) := by
  simp [frameNow]

theorem frameSlot_some (s : State) (j : Fin 4) :
    frameSlot s (some j) =
      { channelHold := s.channelHold j, state := (s.axes.get j).state
        servo := wrap32 (axisValue s j / s.params.servoUnit) } := rfl

theorem exec_syncArrival {s : State} (high : s.resetLow = false) (request : s.sv.request = none) :
    exec .syncArrival s = .next (latchFrame s) := by
  show live s sync = _
  rw [live_of_high high, sync, takeRequest, request]

/-! ## The request due -/

/-- A request whose frame left a latch is taken, and leaves none due (R186). -/
theorem takeRequestByte_request {b : Byte} {s : State} {l : Latch} (latch : s.sv.latch = some l) :
    (takeRequestByte b s).sv.request = none := by
  unfold takeRequestByte
  split
  · rfl
  · rfl
  · rfl
  · rw [servoStrobe, latch]
    rfl

theorem takeRequestByte_resetLow (b : Byte) (s : State) : (takeRequestByte b s).resetLow = s.resetLow := by
  unfold takeRequestByte
  split
  · rfl
  · rw [servoArm, requestDone, requestDatum_frame]
  · rw [servoCancel, requestDone, cancelDatum_frame]
  · unfold servoStrobe
    split
    · rfl
    · rw [requestDone, acceptCapture_frame]

/-- The row that takes a request byte, by its code (R186). -/
def requestRow (b : Byte) : Instr :=
  if b.toNat / 64 = 0 then .servoRequestNone else if b.toNat / 64 = 1 then .servoDatumArm
  else if b.toNat / 64 = 2 then .servoDatumCancel else .servoCapture

theorem exec_requestRow {s : State} {b : Byte} (high : s.resetLow = false) (request : s.sv.request = some b) :
    exec (requestRow b) s = .next (takeRequestByte b s) := by
  have taken {code : Nat} (h : b.toNat / 64 = code) :
      live s (takeRequestOf code) = .next (takeRequestByte b s) := by
    rw [live_of_high high, exec_servoRequest request h]
  unfold requestRow
  split_ifs with none arm cancel
  · exact taken none
  · exact taken arm
  · exact taken cancel
  · exact taken (show b.toNat / 64 = 3 by have := b.isLt; omega)

theorem exec_syncArrival_of_request {s : State} {b : Byte} {l : Latch} (high : s.resetLow = false)
    (request : s.sv.request = some b) (latch : s.sv.latch = some l) :
    exec .syncArrival s = exec .syncArrival (takeRequestByte b s) := by
  rw [exec_syncArrival ((takeRequestByte_resetLow b s).trans high) (takeRequestByte_request latch)]
  show live s sync = _
  rw [live_of_high high, sync, takeRequest, request]

/-! ## The completion of a frame -/

/-- The hold of a completed frame, by the state and the flag that it carried (R162). -/
theorem deliverHold_eq (flag : Bool) (h : Hold) :
    deliverHold flag h = { h with
      state :=
        if h.state = HoldState.holdPending ∧ flag = true then HoldState.holding
        else if h.state = HoldState.releasePending ∧ flag = false then HoldState.run
        else h.state } := by
  obtain ⟨state, age, unseen⟩ := h
  cases state <;> cases flag <;> rfl

/-! ## The bytes of a frame -/

theorem bitIf_cast (b : Bool) (k : Nat) : ((bitIf b k : Nat) : Int) = if b then 2 ^ k else 0 := by
  cases b <;> simp [bitIf]

theorem FrameSlot.bytes_eq (f : FrameSlot) :
    f.bytes = BitVec.ofInt 8 ((if f.channelHold then 128 else 0) + f.state.number) :: be 4 f.servo := by
  rw [FrameSlot.bytes, beNat, Int.natCast_add, bitIf_cast, axisState_code_eq_number]
  rfl

theorem Frame.bytes_eq (f : Frame) :
    f.bytes =
      [f.counter,
        BitVec.ofInt 8 ((if f.hold then 128 else 0) + 32 * f.lock.number + (if f.stale then 16 else 0)
          + (if f.scanActive then 8 else 0)),
        BitVec.ofInt 8 f.result.number]
      ++ ([0, 1, 2, 3] : List (Fin 4)).flatMap fun i =>
        BitVec.ofInt 8 ((if (f.slots.get i).channelHold then 128 else 0) + (f.slots.get i).state.number)
          :: be 4 (f.slots.get i).servo := by
  have status : (f.statusByte : Int) =
      (if f.hold then 128 else 0) + 32 * f.lock.number + (if f.stale then 16 else 0)
        + (if f.scanActive then 8 else 0) := by
    rw [Frame.statusByte, ← lockState_code_eq_number]
    push_cast
    rw [bitIf_cast, bitIf_cast, bitIf_cast]
    rfl
  simp only [← FrameSlot.bytes_eq]
  rw [Frame.bytes, beNat, beNat, status, requestResult_code_eq_number]
  simp [List.flatMap_cons, be, Four.get]

theorem Frame.bytes_length (f : Frame) : f.bytes.length = 23 := by
  simp [Frame.bytes, FrameSlot.bytes]

theorem svDout_frame {s : State} {f : Frame} (h : s.sv.frame = some f) (k : Nat) :
    s.svDout k = (f.bytes[k]?).getD 0x00 := by
  rw [State.svDout, h]
  exact List.getD_eq_getElem?_getD ..

/-- Settles O51: by the frame that the state latches, the row that takes a request, and the bytes that are its fields. -/
theorem servoFramesShowTheLastSampleSet : Obligations.ServoFramesShowTheLastSampleSet := by
  refine ⟨fun s high request positive => ⟨frameNow s, exec_syncArrival high request, rfl, svHold_iff, rfl, beq_iff_eq,
      scanIsOpen_iff s, rfl, rfl, fun i unmapped => ?_, fun i j mapped => ?_⟩,
    fun s b l high request latch => ⟨_, _, rfl, exec_requestRow high request, takeRequestByte_request latch,
      exec_syncArrival_of_request high request latch⟩,
    fun s b high => ⟨fun none => ?_, fun f frame => ?_⟩, fun s b high request code => ?_,
    fun s k => ⟨fun none => ?_, fun f frame => ⟨fun b h => ?_, fun past => ?_⟩⟩,
    fun f => ⟨f.bytes_length, f.bytes_eq⟩⟩
  · rw [frameNow_slot, unmapped]
    rfl
  · rw [frameNow_slot, mapped, frameSlot_some]
    obtain ⟨low, high', wrapped⟩ := wrap32_spec (axisValue s j / s.params.servoUnit)
    obtain ⟨below, above⟩ := ediv_bounds (axisValue s j) positive
    exact ⟨rfl, channelHold_iff s j, low, high', axisValue s j / s.params.servoUnit, below, above, wrapped⟩
  · show live s (completeFrame b) = _
    rw [live_of_high high, completeFrame, none]
  · show live s (completeFrame b) = _
    rw [live_of_high high, completeFrame, frame]
    dsimp only
    rw [deliverHold_eq]
  · show live s (takeRequestOf 0) = _
    rw [live_of_high high, exec_servoRequest request code, takeRequestByte, requestCode, code]
    rfl
  · rw [State.svDout, none]
  · rw [svDout_frame frame, h]
    rfl
  · rw [svDout_frame frame, List.getElem?_eq_none (f.bytes_length ▸ past)]
    rfl

end Sys2Proof.Machine
end

section
/-! PROOFS. The event flags, IDENTIFY, and the bytes of READ STATUS group by group (R174 to R176, R183). -/

namespace Sys2Proof.Machine

/-! ## The groups of READ STATUS -/

theorem bytesOfFour_eq {α : Type} (f : Four α) (g : α → List Byte) :
    bytesOfFour f g = ([0, 1, 2, 3] : List (Fin 4)).flatMap fun i => g (f.get i) := by
  simp [bytesOfFour, List.flatMap_cons, Four.get]

theorem beBool_eq (b : Bool) : beBool b = be 1 (if b then 1 else 0) := by cases b <;> rfl

theorem beOption_eq (n : Nat) (v : Option Int) : beOption n v = item n v := by cases v <;> rfl

theorem channelStatus_eq (ch : Channel) :
    channelStatus ch =
      be 1 ch.state.number ++ be 1 ch.cause.number ++ be 1 ch.source.number ++ be 4 ch.breaks.toNat ++ be 8 ch.count := by
  rw [channelStatus, beNat, beNat, beNat, beNat, channelState_code_eq_number, lossCause_code_eq_number,
    source_code_eq_number]

theorem lockStatus_eq (s : State) :
    lockStatus s =
      be 1 s.lock.state.number ++ be 1 (if s.params.lockOverride then 2 else s.lock.state.number)
        ++ be 4 s.lock.settle ++ be 1 (if s.params.lockOverride then 1 else 0) := by
  have effective : s.effectiveLock.number = if s.params.lockOverride then 2 else s.lock.state.number := by
    unfold State.effectiveLock
    cases s.params.lockOverride <;> rfl
  rw [lockStatus, beNat, beNat, beNat, lockState_code_eq_number, lockState_code_eq_number, effective, beBool_eq]

theorem refractivityStatus_eq (r : Refractivity) :
    refractivityStatus r =
      be 4 r.nInUse ++ be 4 r.nBase ++ be 1 r.tracker.number ++ be 1 r.env.number ++ be 4 r.age
        ++ be 1 r.result.number ++ item 4 r.pending ++ item 4 r.held := by
  rw [refractivityStatus, beNat, beNat, beNat, beNat, trackerState_code_eq_number, envState_code_eq_number,
    updateResult_code_eq_number, beOption_eq, beOption_eq]

theorem axisStatus_eq (a : Axis) (d : DatumSlot) :
    axisStatus a d =
      be 1 a.state.number ++ be 2 a.epoch ++ be 8 a.offset ++ be 4 a.nDat ++ be 1 d.state.number
        ++ be 1 (ownerNumber d.owner) ++ be 1 d.source.number ++ be 1 (edgeNumber d.edge) ++ be 8 d.preset
        ++ be 2 d.timeout ++ be 2 d.age ++ be 1 d.outcome.number := by
  simp only [axisStatus, beNat, axisState_code_eq_number, slotState_code_eq_number, ownerCode_eq_number,
    datumSource_code_eq_number, edgeCode_eq_number, datumOutcome_code_eq_number]

theorem axesStatus_eq (s : State) :
    axesStatus s = ([0, 1, 2, 3] : List (Fin 4)).flatMap fun j => axisStatus (s.axes.get j) (s.slots.get j) := by
  simp [axesStatus, List.flatMap_cons, Four.get]

theorem motionStatus_eq (m : AxisMotion) :
    motionStatus m =
      be 4 m.velocity ++ be 4 m.reported ++ be 1 (if m.valid then 1 else 0) ++ be 1 m.sign.number
        ++ be 1 m.steadyCount ++ be 1 (if m.steady then 1 else 0) ++ be 1 (if m.fast then 1 else 0)
        ++ item 4 m.reference := by
  simp only [motionStatus, beNat, sign_code_eq_number, beBool_eq, beOption_eq]

theorem captureStatus_eq (c : CaptureUnit) :
    captureStatus c =
      be 4 c.nextSeq.toNat ++ be 1 c.inFlight.length
        ++ (match c.inFlight with
          | [] => be 4 0 ++ be 4 0
          | q :: _ => be 4 q.seq.toNat ++ be 4 q.gate.toNat) := by
  unfold captureStatus
  cases c.inFlight <;> rfl

theorem matcherStatus_eq (m : Matcher) :
    matcherStatus m =
      be 2 m.table.length ++ be 2 (m.table.filter fun e => e.retained).length ++ item 8 m.lastMatched
        ++ (match m.cursor with
          | none => be 1 0 ++ be 2 0 ++ be 2 0
          | some pos => be 1 1 ++ be 2 pos ++ be 2 ((m.table[pos]?.map fun e => e.index).getD 0)) := by
  have index (found : Option Entry) :
      (((found.map fun e => e.index).getD 0 : Nat) : Int) = (found.map fun e => (e.index : Int)).getD 0 := by
    cases found <;> rfl
  rw [matcherStatus, List.countP_eq_length_filter, beOption_eq, cursorStatus]
  cases m.cursor with
  | none => rfl
  | some pos =>
    dsimp only
    rw [← index]
    rfl

theorem descriptorStatus_eq (d : Option Descriptor) :
    descriptorStatus d =
      (match d with
      | none => be 1 0 ++ be 1 0 ++ be 1 0 ++ be 1 0 ++ be 1 0 ++ be 8 0 ++ be 8 0
      | some d =>
        be 1 1 ++ be 1 d.id ++ be 1 (d.axis : Nat) ++ be 1 (lineNumber d.line) ++ be 1 d.direction.number
          ++ be 8 d.start ++ be 8 d.stop) := by
  cases d with
  | none => rfl
  | some d =>
    simp only [descriptorStatus, beNat, lineCode_eq_number, direction_code_eq_number]
    rfl

theorem scanStatus_eq (c : Scan) :
    scanStatus c =
      be 1 c.state.number
        ++ (match c.descriptor with
          | none => be 1 0 ++ be 1 0 ++ be 1 0 ++ be 1 0 ++ be 1 0 ++ be 8 0 ++ be 8 0
          | some d =>
            be 1 1 ++ be 1 d.id ++ be 1 (d.axis : Nat) ++ be 1 (lineNumber d.line) ++ be 1 d.direction.number
              ++ be 8 d.start ++ be 8 d.stop)
        ++ be 2 c.matched ++ be 2 c.stray ++ be 2 c.double ++ be 2 c.outOfOrder
        ++ be 1 (endCauseNumber c.endCause) ++ item 2 (c.missed.map fun n => (n : Int))
        ++ item 4 (c.gateAtActive.map fun g => (g.toNat : Int)) := by
  simp only [scanStatus, descriptorStatus_eq, beNat, beOptionNat, beOptionWord, scanState_code_eq_number,
    endCauseCode_eq_number, beOption_eq]

theorem holdStatus_eq (s : State) :
    holdStatus s =
      be 1 s.hold.state.number ++ be 1 (if s.hold.state = .holdPending ∨ s.hold.state = .holding then 1 else 0)
        ++ be 2 s.hold.age ++ be 1 (if s.hold.unseen then 1 else 0) ++ be 2 s.params.highWater ++ be 2 s.params.lowWater := by
  simp only [holdStatus, beNat, holdState_code_eq_number, beBool_eq, svHold_iff]

theorem ringStatus_eq (r : Ring) :
    ringStatus r =
      be 2 r.records.length ++ be 2 r.lost ++ item 4 (r.records.head?.map fun q => (q.seq.toNat : Int)) := by
  rw [ringStatus, beOptionWord, beOption_eq, Option.map_map]
  rfl

theorem identify_eq : identityBytes = [0x10, 0x18, 0x01, 0x04, 0x04, 0x08, 0x02, 0x00, 0x00, 0x80, 0x10, 0x00] := rfl

/-! ## The event flags -/

theorem Flag.number_eq_bit (f : Flag) : f.number = f.bit := by cases f <;> rfl

/-- Every bit of the pending set is that of a flag. -/
theorem Flag.exists_number {i : Nat} (h : i < 12) : ∃ f : Flag, f.number = i := by
  interval_cases i
  exacts [⟨.mainReady, rfl⟩, ⟨.excReady, rfl⟩, ⟨.recordsLost, rfl⟩, ⟨.channelLost, rfl⟩, ⟨.axisBroken, rfl⟩,
    ⟨.datumDone, rfl⟩, ⟨.datumFailed, rfl⟩, ⟨.scanEnded, rfl⟩, ⟨.holdUnseen, rfl⟩, ⟨.laserUnlocked, rfl⟩,
    ⟨.envStale, rfl⟩, ⟨.testAdvanced, rfl⟩]

theorem mpAttn_iff (s : State) :
    s.mpAttn = true ↔
      ∃ g : Flag, s.events.pending.getLsbD g.number = true ∧ s.events.mask.getLsbD g.number = true := by
  rw [State.mpAttn, bne_iff_ne]
  constructor
  · intro nonzero
    by_contra unset
    refine nonzero (BitVec.eq_of_getLsbD_eq fun i hi => ?_)
    obtain ⟨g, rfl⟩ := Flag.exists_number hi
    rw [BitVec.getLsbD_and]
    refine (Bool.eq_false_iff.mpr fun both => ?_).trans BitVec.getLsbD_zero.symm
    exact unset ⟨g, Bool.and_eq_true_iff.mp both⟩
  · rintro ⟨g, pending, enabled⟩ zero
    have both := congrArg (fun v => v.getLsbD g.number) zero
    simp [pending, enabled] at both

theorem setEventMask_stored {s : State} {m : BitVec 16} (waits : s.Waits) (h : m.toNat < 4096) :
    exec (.setEventMask m) s =
      .next (({ s with events := { s.events with mask := BitVec.ofNat 12 m.toNat } }).answer 0x04 2 [0x00]) := by
  rw [BitVec.ofNat_toNat]
  exact (answered waits (if_pos h) : execSetEventMask m s = _)

theorem setEventMask_refused {s : State} {m : BitVec 16} (waits : s.Waits) (h : 4096 ≤ m.toNat) :
    exec (.setEventMask m) s = .next (s.answer 0x04 2 [0x10]) :=
  (answered waits (if_neg (Nat.not_lt.mpr h)) : execSetEventMask m s = _)

/-- Settles O52: READ STATUS by the bytes of each group, the flags by their bits. -/
theorem eventsAndIdentityAreRead : Obligations.EventsAndIdentityAreRead := by
  refine ⟨fun s waits => ⟨(answered waits rfl : execReadEvents s = _), ?_, statusBytes s, statusBytes_length s,
      (answered waits rfl : execReadStatus s = _), ?_⟩,
    fun s m waits => ⟨setEventMask_stored waits, setEventMask_refused waits⟩,
    fun s f => ⟨mpAttn_iff s, fun g => by rw [State.flagPending, Flag.number_eq_bit], fun g => flagPending_raise f g s⟩⟩
  · exact (answered waits rfl : execIdentify s = _)
  · rw [statusBytes, bytesOfFour_eq, bytesOfFour_eq, axesStatus_eq, lockStatus_eq, refractivityStatus_eq, captureStatus_eq,
      matcherStatus_eq, scanStatus_eq, holdStatus_eq, ringStatus_eq, ringStatus_eq,
      show channelStatus = _ from funext channelStatus_eq, show motionStatus = _ from funext motionStatus_eq]
    simp only [axisStatus_eq]
    rfl

end Sys2Proof.Machine
end

section
/-! PROOFS. The phase of a pair: doubling the angle of a point and reading one binary digit of its turn at each doubling
gives the turn rounded down (R9). -/

namespace Sys2Proof.Machine

open Real

/-! ## The turn of a point -/

/-- The point (`re`, `im`) lies `τ` turns from the positive real axis, away from the origin. -/
def OnTurn (re im τ : ℝ) : Prop := ∃ r : ℝ, 0 < r ∧ re = r * cos (2 * π * τ) ∧ im = r * sin (2 * π * τ)

/-- Squaring a point as a complex number doubles its turn. -/
theorem OnTurn.double {re im τ : ℝ} (h : OnTurn re im τ) : OnTurn (re * re - im * im) (2 * re * im) (2 * τ) := by
  obtain ⟨r, positive, rfl, rfl⟩ := h
  have angle : 2 * π * (2 * τ) = 2 * (2 * π * τ) := by ring
  refine ⟨r * r, mul_pos positive positive, ?_, ?_⟩
  · rw [angle, cos_two_mul']
    ring
  · rw [angle, sin_two_mul]
    ring

/-- A turn counts but for whole turns. -/
theorem OnTurn.sub_int {re im τ : ℝ} (h : OnTurn re im τ) (n : ℤ) : OnTurn re im (τ - n) := by
  obtain ⟨r, positive, hre, him⟩ := h
  have turned : 2 * π * (τ - n) = 2 * π * τ - n * (2 * π) := by ring
  exact ⟨r, positive, by rw [turned, cos_sub_int_mul_two_pi, hre], by rw [turned, sin_sub_int_mul_two_pi, him]⟩

/-- A point of the first half turn lies above the real axis, or on its positive side. -/
theorem OnTurn.upper {re im τ : ℝ} (h : OnTurn re im τ) (low : 0 ≤ τ) (high : τ < 1 / 2) :
    ¬ (im < 0 ∨ (im = 0 ∧ re < 0)) := by
  obtain ⟨r, positive, rfl, rfl⟩ := h
  rcases low.eq_or_lt with rfl | low
  · simp [positive.le]
  · have above : 0 < sin (2 * π * τ) := sin_pos_of_pos_of_lt_pi (by positivity) (by nlinarith [pi_pos])
    have im_pos := mul_pos positive above
    rintro (h | ⟨h, -⟩) <;> linarith

/-- A point of the second half turn lies below the real axis, or on its negative side. -/
theorem OnTurn.lower {re im τ : ℝ} (h : OnTurn re im τ) (low : 1 / 2 ≤ τ) (high : τ < 1) :
    im < 0 ∨ (im = 0 ∧ re < 0) := by
  obtain ⟨r, positive, rfl, rfl⟩ := h
  rcases low.eq_or_lt with rfl | low
  · right
    have half : 2 * π * (1 / 2) = π := by ring
    rw [half, sin_pi, cos_pi]
    exact ⟨mul_zero r, by linarith⟩
  · left
    have below : sin (2 * π * τ - 2 * π) < 0 :=
      sin_neg_of_neg_of_neg_pi_lt (by nlinarith [pi_pos]) (by nlinarith [pi_pos])
    rw [sin_sub_two_pi] at below
    exact mul_neg_of_pos_of_neg positive below

/-- The digits read are those of the turn (R9). -/
theorem turnBits_eq (k : Nat) {re im : Int} {τ : ℝ} (acc : Nat) (h : OnTurn re im τ) (low : 0 ≤ τ) (high : τ < 1) :
    ((turnBits k re im acc : Nat) : Int) = acc * 2 ^ k + ⌊τ * 2 ^ k⌋ := by
  induction k generalizing re im τ acc with
  | zero =>
    have floor : ⌊τ⌋ = 0 := Int.floor_eq_zero_iff.mpr ⟨low, high⟩
    simp [turnBits, floor]
  | succ k ih =>
    have doubled : OnTurn ((re * re - im * im : Int) : ℝ) ((2 * re * im : Int) : ℝ) (2 * τ) := by
      push_cast
      exact h.double
    rw [turnBits]
    rcases lt_or_ge τ (1 / 2) with first | second
    · have digit : ¬ (im < 0 ∨ (im = 0 ∧ re < 0)) := by exact_mod_cast h.upper low first
      rw [if_neg digit, ih (2 * acc + 0) doubled (by linarith) (by linarith), pow_succ, pow_succ]
      push_cast
      rw [show 2 * τ * 2 ^ k = τ * (2 ^ k * 2) by ring]
      ring
    · have digit : im < 0 ∨ (im = 0 ∧ re < 0) := by exact_mod_cast h.lower second high
      have turned : OnTurn ((re * re - im * im : Int) : ℝ) ((2 * re * im : Int) : ℝ) (2 * τ - 1) := by
        exact_mod_cast doubled.sub_int 1
      have floor : ⌊τ * 2 ^ (k + 1)⌋ = ⌊(2 * τ - 1) * 2 ^ k⌋ + 2 ^ k := by
        rw [← Int.floor_add_intCast]
        push_cast
        congr 1
        ring
      rw [if_pos digit, ih (2 * acc + 1) turned (by linarith) (by linarith), floor]
      push_cast
      ring

/-! ## The phase -/

/-- Half of a floor, rounded up, is the floor of the half and a half. -/
theorem floor_half_up (x : ℝ) : ⌊x / 2 + 1 / 2⌋ = (⌊x⌋ + 1) / 2 := by
  have low := Int.floor_le x
  have high := Int.lt_floor_add_one x
  have below : (((⌊x⌋ + 1) / 2 * 2 : Int) : ℝ) ≤ ((⌊x⌋ + 1 : Int) : ℝ) := Int.cast_le.mpr (by omega)
  have above : ((⌊x⌋ + 1 : Int) : ℝ) ≤ (((⌊x⌋ + 1) / 2 * 2 + 1 : Int) : ℝ) := Int.cast_le.mpr (by omega)
  push_cast at below above
  rw [Int.floor_eq_iff]
  constructor
  · linarith
  · linarith

/-- The phase of a point is its turn in 1/1024, rounded to nearest with a tie upward, whole turns left out (R9). -/
theorem phaseOf_of_onTurn {c s : Int} {τ : ℝ} (h : OnTurn c s τ) :
    ((phaseOf c s : Nat) : Int) = ⌊τ * 1024 + 1 / 2⌋ % 1024 := by
  have fraction : OnTurn c s (Int.fract τ) := h.sub_int ⌊τ⌋
  have whole : τ * 1024 + 1 / 2 = Int.fract τ * 2 ^ 11 / 2 + 1 / 2 + ((⌊τ⌋ * 1024 : Int) : ℝ) := by
    push_cast
    rw [Int.fract]
    ring
  have digits := turnBits_eq 11 0 fraction (Int.fract_nonneg τ) (Int.fract_lt_one τ)
  rw [Nat.cast_zero, zero_mul, zero_add] at digits
  rw [whole, Int.floor_add_intCast, floor_half_up, ← digits, phaseOf, Int.add_mul_emod_self_right]
  norm_cast

/-- The turn of a point other than the origin, by its argument. -/
theorem onTurn_arg {c s : ℝ} (h : c ≠ 0 ∨ s ≠ 0) : OnTurn c s (Complex.arg ⟨c, s⟩ / (2 * π)) := by
  have nonzero : (⟨c, s⟩ : ℂ) ≠ 0 := fun zero => by
    obtain ⟨hc, hs⟩ := Complex.ext_iff.mp zero
    exact h.elim (fun h => h hc) fun h => h hs
  have angle : 2 * π * (Complex.arg ⟨c, s⟩ / (2 * π)) = Complex.arg ⟨c, s⟩ := by
    have := pi_pos
    field_simp
  refine ⟨‖(⟨c, s⟩ : ℂ)‖, norm_pos_iff.mpr nonzero, ?_, ?_⟩
  · rw [angle, Complex.norm_mul_cos_arg]
  · rw [angle, Complex.norm_mul_sin_arg]

/-- Settles O6: the argument is the turn of the point, but for a whole turn. -/
theorem phaseIsTheRoundedAngle : Obligations.PhaseIsTheRoundedAngle := by
  intro c s h
  have turn : OnTurn c s (Complex.arg ⟨c, s⟩ / (2 * π)) := onTurn_arg (by exact_mod_cast h)
  split
  · rw [phaseOf_of_onTurn turn, div_mul_eq_mul_div]
  · rw [phaseOf_of_onTurn (turn.sub_int (-1))]
    have whole : (Complex.arg ⟨c, s⟩ / (2 * π) - ((-1 : Int) : ℝ)) * 1024 =
        (Complex.arg ⟨c, s⟩ + 2 * π) * 1024 / (2 * π) := by
      have := pi_pos
      push_cast
      field_simp
      ring
    rw [whole]

end Sys2Proof.Machine
end

section
/-! PROOFS. The generator's sine and cosine: the comparison of an angle by doubling it, the search of the rounded sine by
that comparison, and the phase that a neutral channel sees (R194, R195). -/

namespace Sys2Proof.Machine

open Real

/-! ## An angle compared with a part of π -/

/-- An angle lies at or below a bound (with `le`), or at or above it. -/
def LiesBy (le : Bool) (γ bound : ℝ) : Prop := cond le (γ ≤ bound) (bound ≤ γ)

theorem LiesBy.above {γ bound : ℝ} (h : bound < γ) (le : Bool) : LiesBy le γ bound ↔ (!le) = true := by
  cases le
  · exact iff_of_true h.le rfl
  · exact iff_of_false (not_le_of_gt h) nofun

theorem LiesBy.below {γ bound : ℝ} (h : γ < bound) (le : Bool) : LiesBy le γ bound ↔ le = true := by
  cases le
  · exact iff_of_false (not_le_of_gt h) nofun
  · exact iff_of_true h.le rfl

theorem LiesBy.double {γ bound : ℝ} (le : Bool) : LiesBy le (2 * γ) (2 * bound) ↔ LiesBy le γ bound := by
  cases le
  · exact mul_le_mul_iff_right₀ two_pos
  · exact mul_le_mul_iff_right₀ two_pos

/-- Seen from the other side of `c` an angle lies the other way. -/
theorem LiesBy.reflect {γ bound : ℝ} (c : ℝ) (le : Bool) : LiesBy (!le) (c - γ) (c - bound) ↔ LiesBy le γ bound := by
  cases le
  · exact sub_le_sub_iff_left c
  · exact sub_le_sub_iff_left c

section Quadrants

variable {u w : Int} {γ : ℝ}

theorem cos_nonneg_iff_le {γ : ℝ} (low : 0 ≤ γ) (high : γ ≤ π) : 0 ≤ cos γ ↔ γ ≤ π / 2 := by
  refine ⟨fun h => le_of_not_gt fun past => ?_, fun h => cos_nonneg_of_neg_pi_div_two_le_of_le (by linarith [pi_pos]) h⟩
  exact absurd h (not_le_of_gt (cos_neg_of_pi_div_two_lt_of_lt past (by linarith [pi_pos])))

/-- The sign of the cosine tells the half of 0..π. -/
theorem nonneg_iff_le (positive : 0 < w) (angle : (u : ℝ) = w * cos γ) (low : 0 ≤ γ) (high : γ ≤ π) :
    0 ≤ u ↔ γ ≤ π / 2 := by
  have wide : (0 : ℝ) < w := by exact_mod_cast positive
  rw [← cos_nonneg_iff_le low high, ← Int.cast_nonneg_iff (R := ℝ), angle, mul_nonneg_iff_of_pos_left wide]

/-- The cosine of the doubled angle. -/
theorem cast_double (angle : (u : ℝ) = w * cos γ) :
    ((2 * u * u - w * w : Int) : ℝ) = ((w * w : Int) : ℝ) * cos (2 * γ) := by
  push_cast
  rw [angle, cos_two_mul]
  ring

/-- The cosine is that of angle 0 only there. -/
theorem eq_iff_le_zero (positive : 0 < w) (angle : (u : ℝ) = w * cos γ) (low : 0 ≤ γ) (high : γ ≤ π) : u = w ↔ γ ≤ 0 := by
  have wide : (w : ℝ) ≠ 0 := by exact_mod_cast positive.ne'
  rw [← Int.cast_inj (α := ℝ), angle, mul_eq_left₀ wide,
    cos_eq_one_iff_of_lt_of_lt (by linarith [pi_pos]) (by linarith [pi_pos])]
  exact ⟨fun h => h.le, fun h => le_antisymm h low⟩

/-- The cosine is that of angle π only there. -/
theorem eq_neg_iff_pi_le (positive : 0 < w) (angle : (u : ℝ) = w * cos γ) (low : 0 ≤ γ) (high : γ ≤ π) :
    u = -w ↔ π ≤ γ := by
  have opposite : ((-u : Int) : ℝ) = w * cos (π - γ) := by
    push_cast
    rw [cos_pi_sub, angle]
    ring
  rw [← neg_eq_iff_eq_neg, eq_iff_le_zero positive opposite (by linarith) (by linarith), sub_nonpos]

end Quadrants

/-- The comparison is right (R194): doubling an angle doubles its distance from 0, or from π. -/
theorem compareAngle_iff (n : Nat) {u w : Int} {k : Nat} {γ : ℝ} (le : Bool) (positive : 0 < w)
    (angle : (u : ℝ) = w * cos γ) (low : 0 ≤ γ) (high : γ ≤ π) (within : k ≤ 2 ^ n) :
    compareAngle n u w k le = true ↔ LiesBy le γ (k * (π / 2 ^ n)) := by
  induction n generalizing u w k γ le with
  | zero =>
    rw [pow_zero, div_one]
    have zero := eq_iff_le_zero positive angle low high
    have half := eq_neg_iff_pi_le positive angle low high
    rcases Nat.le_one_iff_eq_zero_or_eq_one.mp within with rfl | rfl
    · cases le
      · simpa [compareAngle, LiesBy] using low
      · simpa [compareAngle, LiesBy] using zero
    · cases le
      · simpa [compareAngle, LiesBy] using half
      · simpa [compareAngle, LiesBy] using high
  | succ n ih =>
    have power : (0 : ℝ) < 2 ^ n := by positivity
    have square : 0 < w * w := Int.mul_pos positive positive
    have half := nonneg_iff_le positive angle low high
    have doubled : (k : ℝ) * (π / 2 ^ n) = 2 * (k * (π / 2 ^ (n + 1))) := by
      rw [pow_succ]
      field_simp
    rw [compareAngle]
    split_ifs with near second second
    · have bound : k * (π / 2 ^ n) ≤ π := by
        rw [mul_div_assoc', div_le_iff₀ power, mul_comm]
        exact mul_le_mul_of_nonneg_left (by exact_mod_cast near) pi_pos.le
      have past := not_le.mp (mt half.mpr (not_le.mpr second))
      exact (LiesBy.above (by linarith) le).symm
    · have first := half.mp (not_lt.mp second)
      rw [ih le square (cast_double angle) (by linarith) (by linarith) near, doubled, LiesBy.double]
    · have bound : π < k * (π / 2 ^ n) := by
        rw [mul_div_assoc', lt_div_iff₀ power, mul_comm]
        exact mul_lt_mul_of_pos_right (by exact_mod_cast not_le.mp near) pi_pos
      have first := half.mp second
      exact (LiesBy.below (by linarith) le).symm
    · have past := not_le.mp (mt half.mpr second)
      have folded : ((2 * u * u - w * w : Int) : ℝ) = ((w * w : Int) : ℝ) * cos (2 * π - 2 * γ) := by
        rw [cos_two_pi_sub, cast_double angle]
      have rest : ((2 ^ (n + 1) - k : Nat) : ℝ) * (π / 2 ^ n) = 2 * π - 2 * (k * (π / 2 ^ (n + 1))) := by
        rw [← doubled, Nat.cast_sub within]
        push_cast
        rw [pow_succ]
        field_simp
      rw [ih (!le) square folded (by linarith) (by linarith) (by rw [pow_succ] at within ⊢; omega), rest, LiesBy.reflect,
        LiesBy.double]

/-! ## The rounded sine of the first quarter -/

/-- The comparison of a fraction with the sine of a phase of the first quarter (R194). -/
theorem sineAtLeast_iff {p q psi : Nat} (positive : 0 < q) (fraction : p ≤ q) (quarter : psi ≤ 256) :
    sineAtLeast p q psi = true ↔ (p : ℝ) / q ≤ sin (2 * π * psi / 1024) := by
  have wide : (0 : ℝ) < q := by exact_mod_cast positive
  have low : (0 : ℝ) ≤ p / q := by positivity
  have high : (p : ℝ) / q ≤ 1 := (div_le_one wide).mpr (by exact_mod_cast fraction)
  have small : (psi : ℝ) ≤ 256 := by exact_mod_cast quarter
  have angle : (((q : Int) * q - 2 * p * p : Int) : ℝ) = (((q : Int) * q : Int) : ℝ) * cos (2 * arcsin (p / q)) := by
    rw [cos_two_mul', cos_sq', sin_arcsin (by linarith) high]
    push_cast
    field_simp
    ring
  rw [sineAtLeast, compareAngle_iff 8 true (Int.mul_pos (by exact_mod_cast positive) (by exact_mod_cast positive)) angle
    (by linarith [arcsin_nonneg.mpr low]) (by linarith [arcsin_le_pi_div_two (p / q : ℝ)]) quarter]
  have halved : (psi : ℝ) * (π / 2 ^ 8) = 2 * (2 * π * psi / 1024) := by ring
  rw [halved, LiesBy.double]
  refine arcsin_le_iff_le_sin ⟨by linarith, high⟩ ⟨?_, ?_⟩
  · have := pi_pos
    have : (0 : ℝ) ≤ 2 * π * psi / 1024 := by positivity
    linarith
  · nlinarith [pi_pos]

/-- The search finds the largest number that its test admits, once it lies among the bits left. -/
theorem sineBits_eq {amp psi target : Nat}
    (test : ∀ m, 0 < m → ((m ≤ amp ∧ sineAtLeast (2 * m - 1) (2 * amp) psi = true) ↔ m ≤ target)) (k : Nat) {m : Nat}
    (low : m ≤ target) (high : target < m + 2 ^ k) : sineBits amp psi k m = target := by
  induction k generalizing m with
  | zero => exact le_antisymm low (Nat.lt_succ_iff.mp high)
  | succ k ih =>
    rw [pow_succ] at high
    rw [sineBits]
    by_cases reached : m + 2 ^ k ≤ target
    · rw [if_pos ((test _ (by positivity)).mpr reached)]
      exact ih reached (by omega)
    · rw [if_neg (mt (test _ (by positivity)).mp reached)]
      exact ih low (not_le.mp reached)

/-- The rounded sine of the first quarter (R194). -/
theorem quarterSine_eq (amp : Nat) {psi : Nat} (quarter : psi ≤ 256) :
    quarterSine amp psi = ⌊amp * sin (2 * π * psi / 1024) + 1 / 2⌋₊ := by
  have small : (psi : ℝ) ≤ 256 := by exact_mod_cast quarter
  have sine : 0 ≤ sin (2 * π * psi / 1024) := by
    refine sin_nonneg_of_nonneg_of_le_pi (by positivity) ?_
    nlinarith [pi_pos]
  have sine_le := sin_le_one (2 * π * psi / 1024)
  have product : (0 : ℝ) ≤ amp * sin (2 * π * psi / 1024) := by positivity
  have product_le : amp * sin (2 * π * psi / 1024) ≤ amp := mul_le_of_le_one_right (Nat.cast_nonneg _) sine_le
  have below : ⌊amp * sin (2 * π * psi / 1024) + 1 / 2⌋₊ ≤ amp := by
    refine Nat.lt_succ_iff.mp ((Nat.floor_lt (by linarith)).mpr ?_)
    push_cast
    linarith
  refine sineBits_eq (fun m positive => ?_) _ (Nat.zero_le _) ?_
  · rw [Nat.le_floor_iff (by linarith)]
    constructor
    · rintro ⟨within, reached⟩
      have wide : (0 : ℝ) < amp := by exact_mod_cast positive.trans_le within
      rw [sineAtLeast_iff (by omega) (by omega) quarter, Nat.cast_sub (by omega)] at reached
      push_cast at reached
      rw [div_le_iff₀ (by linarith)] at reached
      linarith
    · intro reached
      have within : m ≤ amp := (Nat.le_floor (by linarith)).trans below
      have wide : (0 : ℝ) < amp := by exact_mod_cast positive.trans_le within
      refine ⟨within, ?_⟩
      rw [sineAtLeast_iff (by omega) (by omega) quarter, Nat.cast_sub (by omega)]
      push_cast
      rw [div_le_iff₀ (by linarith)]
      linarith
  · rw [zero_add]
    exact below.trans_lt Nat.lt_log2_self

/-! ## Sine and cosine of every phase -/

/-- `v` is `x` rounded to nearest with ties away from zero (R194). -/
def Nearest (x : ℝ) (v : Int) : Prop := |(v : ℝ) - x| ≤ 1 / 2 ∧ (|(v : ℝ) - x| = 1 / 2 → |x| < |(v : ℝ)|)

theorem Nearest.neg {x : ℝ} {v : Int} (h : Nearest x v) : Nearest (-x) (-v) := by
  have turned : |((-v : Int) : ℝ) - -x| = |(v : ℝ) - x| := by
    push_cast
    rw [← abs_neg]
    ring_nf
  rw [Nearest, turned, abs_neg, Int.cast_neg, abs_neg]
  exact h

theorem nearest_floor {x : ℝ} (h : 0 ≤ x) : Nearest x ⌊x + 1 / 2⌋₊ := by
  have low := Nat.floor_le (show 0 ≤ x + 1 / 2 by linarith)
  have high := Nat.lt_floor_add_one (x + 1 / 2)
  have cast : ((⌊x + 1 / 2⌋₊ : Int) : ℝ) = ⌊x + 1 / 2⌋₊ := Int.cast_natCast _
  rw [Nearest, cast, abs_le]
  refine ⟨⟨by linarith, by linarith⟩, fun tie => ?_⟩
  rw [abs_of_nonneg h, abs_of_nonneg (Nat.cast_nonneg _)]
  rcases abs_eq (by norm_num : (0 : ℝ) ≤ 1 / 2) |>.mp tie with up | down
  · linarith
  · linarith

theorem quarterSine_nearest (amp : Nat) {psi : Nat} (quarter : psi ≤ 256) :
    Nearest (amp * sin (2 * π * psi / 1024)) (quarterSine amp psi) := by
  have small : (psi : ℝ) ≤ 256 := by exact_mod_cast quarter
  rw [quarterSine_eq amp quarter]
  refine nearest_floor (mul_nonneg (Nat.cast_nonneg _) (sin_nonneg_of_nonneg_of_le_pi (by positivity) ?_))
  nlinarith [pi_pos]

/-- The sine of a phase in 1/1024 turn. -/
noncomputable def turnSine (psi : Nat) : ℝ := sin (2 * π * psi / 1024)

theorem turnSine_of_turns {psi rest turns : Nat} (h : psi = rest + 1024 * turns) : turnSine psi = turnSine rest := by
  have angle : 2 * π * (psi : ℝ) / 1024 = 2 * π * rest / 1024 + turns * (2 * π) := by
    rw [h]
    push_cast
    ring
  rw [turnSine, angle, sin_add_nat_mul_two_pi, turnSine]

theorem turnSine_half (psi : Nat) : turnSine (psi + 512) = -turnSine psi := by
  have angle : 2 * π * ((psi + 512 : Nat) : ℝ) / 1024 = 2 * π * psi / 1024 + π := by
    push_cast
    ring
  rw [turnSine, angle, sin_add_pi, turnSine]

theorem turnSine_fold {psi : Nat} (h : psi ≤ 512) : turnSine (512 - psi) = turnSine psi := by
  have angle : 2 * π * ((512 - psi : Nat) : ℝ) / 1024 = π - 2 * π * psi / 1024 := by
    rw [Nat.cast_sub h]
    push_cast
    ring
  rw [turnSine, angle, sin_pi_sub, turnSine]

theorem turnSine_quarter (psi : Nat) : turnSine (psi + 256) = cos (2 * π * psi / 1024) := by
  have angle : 2 * π * ((psi + 256 : Nat) : ℝ) / 1024 = 2 * π * psi / 1024 + π / 2 := by
    push_cast
    ring
  rw [turnSine, angle, sin_add_pi_div_two]

/-- The sine of every phase, folded back into the first quarter (R194). -/
theorem sineOf_nearest (amp psi : Nat) : Nearest (amp * turnSine psi) (sineOf amp psi) := by
  have rest : psi % 256 ≤ 256 := (Nat.mod_lt _ (by decide)).le
  have opposite : 256 - psi % 256 ≤ 256 := Nat.sub_le _ _
  unfold sineOf
  split
  next quarter =>
    have folded : turnSine psi = turnSine (psi % 256) := turnSine_of_turns (turns := psi / 1024) (by omega)
    rw [folded]
    exact quarterSine_nearest amp rest
  next quarter =>
    have folded : turnSine psi = turnSine (256 - psi % 256) := by
      rw [turnSine_of_turns (rest := 512 - (256 - psi % 256)) (turns := psi / 1024) (by omega),
        turnSine_fold (psi := 256 - psi % 256) (by omega)]
    rw [folded]
    exact quarterSine_nearest amp opposite
  next quarter =>
    have folded : turnSine psi = -turnSine (psi % 256) := by
      rw [turnSine_of_turns (rest := psi % 256 + 512) (turns := psi / 1024) (by omega), turnSine_half]
    rw [folded, mul_neg]
    exact (quarterSine_nearest amp rest).neg
  next not0 not1 not2 =>
    have quarter : psi / 256 % 4 = 3 := by
      have := Nat.mod_lt (psi / 256) (y := 4) (by decide)
      change ¬ _ at not0 not1 not2
      omega
    have folded : turnSine psi = -turnSine (256 - psi % 256) := by
      rw [turnSine_of_turns (rest := 512 - (256 - psi % 256) + 512) (turns := psi / 1024) (by omega), turnSine_half,
        turnSine_fold (psi := 256 - psi % 256) (by omega)]
    rw [folded, mul_neg]
    exact (quarterSine_nearest amp opposite).neg

theorem cosineOf_nearest (amp psi : Nat) : Nearest (amp * cos (2 * π * psi / 1024)) (cosineOf amp psi) := by
  rw [← turnSine_quarter]
  exact sineOf_nearest amp (psi + 256)

/-- Settles O7: the search rounds the sine of the first quarter, and every phase is folded back into it. -/
theorem generatorPairIsRounded : Obligations.GeneratorPairIsRounded :=
  fun amp psi _ _ => ⟨sineOf_nearest amp psi, cosineOf_nearest amp psi⟩

/-! ## The phase that a neutral channel sees -/

/-- A point within 1 of the point `amp` on the positive real axis stands less than half a phase unit from it. -/
theorem near_axis {amp x y : ℝ} (large : 4096 ≤ amp) (hx : |x - amp| ≤ 1) (hy : |y| ≤ 1) :
    ∃ r δ : ℝ, 0 < r ∧ x = r * cos δ ∧ y = r * sin δ ∧ |δ| < π / 1024 := by
  obtain ⟨lowX, -⟩ := abs_le.mp hx
  have right : 0 < x := by linarith
  have unit : 0 < sqrt (1 + (y / x) ^ 2) := by positivity
  have slope : |y / x| < π / 1024 := by
    rw [abs_div, abs_of_pos right, div_lt_iff₀ right]
    nlinarith [pi_gt_three]
  refine ⟨x * sqrt (1 + (y / x) ^ 2), arctan (y / x), by positivity, ?_, ?_, ?_⟩
  · rw [cos_arctan]
    field_simp
  · rw [sin_arctan]
    field_simp
  · have narrow : π / 1024 < π / 2 := by linarith [pi_pos]
    have steep : π / 1024 < tan (π / 1024) := lt_tan (by positivity) narrow
    have inverse : arctan (tan (π / 1024)) = π / 1024 := arctan_tan (by linarith [pi_pos]) narrow
    obtain ⟨low, high⟩ := abs_lt.mp slope
    rw [abs_lt, neg_lt, ← arctan_neg, ← inverse, arctan_lt_arctan_iff, arctan_lt_arctan_iff]
    exact ⟨by linarith, by linarith⟩

/-- The rounded pair of a phase, turned back by it, stands within 1 of the amplitude on the axis. -/
theorem turnedBack {amp c s θ : ℝ} (hc : |c - amp * cos θ| ≤ 1 / 2) (hs : |s - amp * sin θ| ≤ 1 / 2) :
    |c * cos θ + s * sin θ - amp| ≤ 1 ∧ |s * cos θ - c * sin θ| ≤ 1 := by
  have combine : ∀ a b p q : ℝ, |a| ≤ 1 / 2 → |b| ≤ 1 / 2 → |p| ≤ 1 → |q| ≤ 1 → |a * p + b * q| ≤ 1 := by
    intro a b p q ha hb hp hq
    refine (abs_add_le _ _).trans ?_
    rw [abs_mul, abs_mul]
    nlinarith [abs_nonneg a, abs_nonneg b, abs_nonneg p, abs_nonneg q]
  have one := sin_sq_add_cos_sq θ
  constructor
  · have split : c * cos θ + s * sin θ - amp = (c - amp * cos θ) * cos θ + (s - amp * sin θ) * sin θ := by
      linear_combination amp * one
    rw [split]
    exact combine _ _ _ _ hc hs (abs_cos_le_one θ) (abs_sin_le_one θ)
  · have split : s * cos θ - c * sin θ = (s - amp * sin θ) * cos θ + (c - amp * cos θ) * -sin θ := by ring
    rw [split]
    exact combine _ _ _ _ hs hc (abs_cos_le_one θ) ((abs_neg _).trans_le (abs_sin_le_one θ))

/-- Neutral coefficients leave a pair as it is (R7). -/
theorem corrected_neutral {p : ChannelParams} (offsetS : p.offsetS = 0) (offsetC : p.offsetC = 0) (gain : p.gainC = 32768)
    (skew : p.skew = 0) (s c : Int) : correctedSine p s = s ∧ correctedCosine p s c = c := by
  have whole : roundDiv (c * 32768) 32768 = c :=
    (roundDiv_isRounded (by decide) _).unique ⟨by omega, by omega, by omega, by omega⟩
  rw [correctedCosine, correctedSine, offsetS, offsetC, gain, skew, sub_zero, sub_zero, mul_zero, whole,
    roundDiv_zero (by decide), sub_zero]
  exact ⟨rfl, rfl⟩

/-- Settles O8: the rounding turns the generator's point by less than half a phase unit. -/
theorem neutralChannelSeesTheGeneratorPhase : Obligations.NeutralChannelSeesTheGeneratorPhase := by
  intro amp psi p large _ within offsetS offsetC gain skew
  obtain ⟨sine, cosine⟩ := corrected_neutral offsetS offsetC gain skew (sineOf amp psi) (cosineOf amp psi)
  rw [sine, cosine]
  obtain ⟨hx, hy⟩ := turnedBack (cosineOf_nearest amp psi).1 (sineOf_nearest amp psi).1
  obtain ⟨r, δ, positive, hX, hY, small⟩ := near_axis (by exact_mod_cast large) hx hy
  have one := sin_sq_add_cos_sq (2 * π * psi / 1024)
  have turn : OnTurn (cosineOf amp psi) (sineOf amp psi) (psi / 1024 + δ / (2 * π)) := by
    have angle : 2 * π * (psi / 1024 + δ / (2 * π)) = 2 * π * psi / 1024 + δ := by
      have := pi_pos
      field_simp
    rw [OnTurn, angle, cos_add, sin_add]
    refine ⟨r, positive, ?_, ?_⟩
    · linear_combination (cosineOf amp psi : ℝ) * -one + cos (2 * π * psi / 1024) * hX - sin (2 * π * psi / 1024) * hY
    · linear_combination (sineOf amp psi : ℝ) * -one + sin (2 * π * psi / 1024) * hX + cos (2 * π * psi / 1024) * hY
  have floor : ⌊((psi : ℝ) / 1024 + δ / (2 * π)) * 1024 + 1 / 2⌋ = psi := by
    have unit : |δ / (2 * π) * 1024| < 1 / 2 := by
      have := pi_pos
      rw [abs_mul, abs_div, abs_of_pos (by positivity : (0 : ℝ) < 2 * π), abs_of_pos (by norm_num : (0 : ℝ) < 1024),
        div_mul_eq_mul_div, div_lt_iff₀ (by positivity)]
      linarith
    obtain ⟨low, high⟩ := abs_lt.mp unit
    rw [Int.floor_eq_iff]
    push_cast
    constructor
    · linarith
    · linarith
  have seen := phaseOf_of_onTurn turn
  rw [floor] at seen
  omega

end Sys2Proof.Machine
end
